-- ==== Sys2Proof/Word.lean ====
section
/-! DEFINITION. The values of the block: the dispatch word, the table entries, the logical lines, the indicator
modes and the events (00_scope.md R9, R11, R12; 10_state.md R18..R20, R25; 30_encoding.md R47, R52). Types only. -/

namespace Sys2Proof

/-- The dispatch word `IDX[7:0]` (R47). -/
abbrev Word := BitVec 8

/-- The two channels (R12). -/
inductive Channel where
  | tx
  | rx
deriving DecidableEq, Repr, Inhabited

/-- The six logical lines, independent of physical wiring (R25). -/
inductive Line where
  | txClk
  | txData
  | txLe
  | rxClk
  | rxData
  | rxLe
deriving DecidableEq, Repr, Inhabited

/-- A direction a pin-driver call may request (R87). -/
inductive Direction where
  | input
  | output
deriving DecidableEq, Repr, Inhabited

/-- The indicator modes of the StatusIndicator's contract (R89). -/
inductive IndMode where
  | off
  | blink
  | on
deriving DecidableEq, Repr, Inhabited

/-- The divider values of one channel, each field at its declared width (R18, D19). -/
structure RegisterValue where
  referenceDivider : BitVec 16
  programmableCounter : BitVec 19
deriving DecidableEq, Repr, Inhabited

/-- One entry of FREQ_TABLE: a typed record without a packed layout (R19, R52). -/
structure TableEntry where
  tx : RegisterValue
  rx : RegisterValue
deriving DecidableEq, Repr, Inhabited

/-- The seven operating modes (R20); they are also the seven commands (R48). -/
inductive OperatingMode where
  | amateur
  | txTuning
  | rxTuning
  | commercial
  | testMode
  | ledTest
  | unused
deriving DecidableEq, Repr, Inhabited

/-- One collaborator call, the unit of the trace (R11): `L(p,v)`, `D(p,d)`, `W`, `I(ch,m)`. -/
inductive Event where
  | level (p : Line) (v : Bool)
  | direction (p : Line) (d : Direction)
  | wait
  | indicator (ch : Channel) (m : IndMode)
deriving DecidableEq, Repr, Inhabited

end Sys2Proof
end

