-- ==== Sys2Proof/Syntax.lean ====
section
/-! DEFINITION. The syntax: one constructor of `Instr` per row of spec/opcode_table.json (30_encoding.md R50, R60). A
constructor is named after its command and the first index of its row; its operand is the row's free index bits, the
letters `i` of the row's pattern, so that every term is an instruction (log 13). A row whose pattern is fully fixed has
no operand. `Spelling` and `SendFieldCall` are the written forms of 30_encoding.md R59. -/

namespace Sys2Proof

/-- The dispatch commands, one constructor per row of the opcode table. -/
inductive Instr where
  /-- AMATEUR, indices 0..63, pattern 00iiiiii (R66). -/
  | amateur0 (i : BitVec 6)
  /-- AMATEUR, indices 64..79, pattern 0100iiii (R66). -/
  | amateur64 (i : BitVec 4)
  /-- TXTUNE, indices 80..95, pattern 0101iiii (R67). -/
  | txtune80 (i : BitVec 4)
  /-- TXTUNE, indices 96..111, pattern 0110iiii (R67). -/
  | txtune96 (i : BitVec 4)
  /-- TXTUNE, indices 112, pattern 01110000 (R67). -/
  | txtune112
  /-- RXTUNE, indices 113, pattern 01110001 (R68). -/
  | rxtune113
  /-- RXTUNE, indices 114..115, pattern 0111001i (R68). -/
  | rxtune114 (i : BitVec 1)
  /-- RXTUNE, indices 116..119, pattern 011101ii (R68). -/
  | rxtune116 (i : BitVec 2)
  /-- RXTUNE, indices 120..127, pattern 01111iii (R68). -/
  | rxtune120 (i : BitVec 3)
  /-- COMMERCIAL, indices 128..191, pattern 10iiiiii (R69). -/
  | commercial128 (i : BitVec 6)
  /-- COMMERCIAL, indices 192..223, pattern 110iiiii (R69). -/
  | commercial192 (i : BitVec 5)
  /-- COMMERCIAL, indices 224..225, pattern 1110000i (R69). -/
  | commercial224 (i : BitVec 1)
  /-- COMMERCIAL, indices 226, pattern 11100010 (R69). -/
  | commercial226
  /-- UNUSED, indices 227, pattern 11100011 (R72). -/
  | unused227
  /-- UNUSED, indices 228..231, pattern 111001ii (R72). -/
  | unused228 (i : BitVec 2)
  /-- UNUSED, indices 232..239, pattern 11101iii (R72). -/
  | unused232 (i : BitVec 3)
  /-- TESTMODE, indices 240..243, pattern 111100ii (R70). -/
  | testmode240 (i : BitVec 2)
  /-- TESTMODE, indices 244..245, pattern 1111010i (R70). -/
  | testmode244 (i : BitVec 1)
  /-- UNUSED, indices 246..247, pattern 1111011i (R72). -/
  | unused246 (i : BitVec 1)
  /-- UNUSED, indices 248..251, pattern 111110ii (R72). -/
  | unused248 (i : BitVec 2)
  /-- UNUSED, indices 252..253, pattern 1111110i (R72). -/
  | unused252 (i : BitVec 1)
  /-- UNUSED, indices 254, pattern 11111110 (R72). -/
  | unused254
  /-- LEDTEST, indices 255, pattern 11111111 (R71). -/
  | ledtest255
deriving DecidableEq, Repr

/-- A dispatch command as R59 spells it: a mnemonic (its mode stands for it, R48) and an index. A spelling whose mnemonic
disagrees with its index is ill-formed (WellFormed.lean) and is refused (`assemble`, Decode.lean). -/
structure Spelling where
  mnemonic : OperatingMode
  index : Word
deriving DecidableEq, Repr

/-- The internal operation `SENDFIELD ch, raw, cb, n` as R59 and R90 write it, its operands unsigned values of any size. -/
structure SendFieldCall where
  ch : Channel
  raw : Nat
  cb : Nat
  n : Nat
deriving DecidableEq, Repr

/-- The internal operations R59 writes: `SENDFIELD ch, raw, cb, n`, `PROGCH ch` and `PROGRAM tx, rx`. No dispatch word encodes
one (R73, R90); the dispatch commands reach them. -/
inductive Operation where
  | sendField (c : SendFieldCall)
  | progCh (ch : Channel)
  | program (tx rx : Bool)
deriving DecidableEq, Repr

end Sys2Proof
end

