-- ==== Sys2Proof/WellFormed.lean ====
section
/-! DEFINITION. The checks on written forms: a spelled command (30_encoding.md R59), a SENDFIELD call (43_serial_encoder.md
R90, D20), the host's argument (R58, R118). A term of `Instr` needs no check: its constructor fixes the row and its operand
holds exactly the row's free bits (log 13). -/

namespace Sys2Proof

/-- The index ranges of R48, each mode's own. -/
def OperatingMode.inRange : OperatingMode → Word → Bool
  | .amateur, x => x.toNat ≤ 79
  | .txTuning, x => 80 ≤ x.toNat && x.toNat ≤ 112
  | .rxTuning, x => 113 ≤ x.toNat && x.toNat ≤ 127
  | .commercial, x => 128 ≤ x.toNat && x.toNat ≤ 226
  | .testMode, x => 240 ≤ x.toNat && x.toNat ≤ 245
  | .ledTest, x => x.toNat == 255
  | .unused, x => (227 ≤ x.toNat && x.toNat ≤ 239) || (246 ≤ x.toNat && x.toNat ≤ 254)

/-- "A spelling whose mnemonic disagrees with its index is ill-formed and must be refused" (R59). -/
def Spelling.wellFormed (sp : Spelling) : Bool := sp.mnemonic.inRange sp.index

/-- SENDFIELD is defined for `n` in 0..MAX_BITCOUNT and `cb` in 0, 1; other values are refused (R90, D20, U10). -/
def SendFieldCall.wellFormed (maxBitCount : Nat) (c : SendFieldCall) : Bool := c.cb ≤ 1 && c.n ≤ maxBitCount

/-- An internal operation is well-formed when its SENDFIELD call is; the operands of the other two are of their types (R59,
R90). -/
def Operation.wellFormed (maxBitCount : Nat) : Operation → Bool
  | .sendField c => c.wellFormed maxBitCount
  | .progCh _ => true
  | .program _ _ => true

/-- The host's argument range 1..256 (R58, R118). -/
def hostArgumentInRange (n : Int) : Bool := 1 ≤ n && n ≤ 256

end Sys2Proof
end

