-- ==== Sys2Proof/Decode.lean ====
section
/-! DEFINITION. The decoder and, after it, the encoder of the dispatch word, both from the match and mask table of
30_encoding.md R50; the assembler and the printer of R59. The decoder is the first-match lookup over the rows (R60). -/

namespace Sys2Proof

/-- One row of the table of R50. `build` reads the row's free bits. -/
structure Row where
  mask : Word
  pattern : Word
  build : Word → Instr

/-- "An index `x` belongs to a row when `(x & mask) == match`" (R50). -/
def Row.matches (r : Row) (x : Word) : Bool := x &&& r.mask == r.pattern

/-- The 23 rows of R50, in the table's order. -/
def rows : List Row :=
  [ ⟨0xC0#8, 0x00#8, fun x => .amateur0 (x.extractLsb' 0 6)⟩
  , ⟨0xF0#8, 0x40#8, fun x => .amateur64 (x.extractLsb' 0 4)⟩
  , ⟨0xF0#8, 0x50#8, fun x => .txtune80 (x.extractLsb' 0 4)⟩
  , ⟨0xF0#8, 0x60#8, fun x => .txtune96 (x.extractLsb' 0 4)⟩
  , ⟨0xFF#8, 0x70#8, fun _ => .txtune112⟩
  , ⟨0xFF#8, 0x71#8, fun _ => .rxtune113⟩
  , ⟨0xFE#8, 0x72#8, fun x => .rxtune114 (x.extractLsb' 0 1)⟩
  , ⟨0xFC#8, 0x74#8, fun x => .rxtune116 (x.extractLsb' 0 2)⟩
  , ⟨0xF8#8, 0x78#8, fun x => .rxtune120 (x.extractLsb' 0 3)⟩
  , ⟨0xC0#8, 0x80#8, fun x => .commercial128 (x.extractLsb' 0 6)⟩
  , ⟨0xE0#8, 0xC0#8, fun x => .commercial192 (x.extractLsb' 0 5)⟩
  , ⟨0xFE#8, 0xE0#8, fun x => .commercial224 (x.extractLsb' 0 1)⟩
  , ⟨0xFF#8, 0xE2#8, fun _ => .commercial226⟩
  , ⟨0xFF#8, 0xE3#8, fun _ => .unused227⟩
  , ⟨0xFC#8, 0xE4#8, fun x => .unused228 (x.extractLsb' 0 2)⟩
  , ⟨0xF8#8, 0xE8#8, fun x => .unused232 (x.extractLsb' 0 3)⟩
  , ⟨0xFC#8, 0xF0#8, fun x => .testmode240 (x.extractLsb' 0 2)⟩
  , ⟨0xFE#8, 0xF4#8, fun x => .testmode244 (x.extractLsb' 0 1)⟩
  , ⟨0xFE#8, 0xF6#8, fun x => .unused246 (x.extractLsb' 0 1)⟩
  , ⟨0xFC#8, 0xF8#8, fun x => .unused248 (x.extractLsb' 0 2)⟩
  , ⟨0xFE#8, 0xFC#8, fun x => .unused252 (x.extractLsb' 0 1)⟩
  , ⟨0xFF#8, 0xFE#8, fun _ => .unused254⟩
  , ⟨0xFF#8, 0xFF#8, fun _ => .ledtest255⟩ ]

/-- Why a word or a written form is rejected. -/
inductive DecodeError where
  /-- No row matches the word. No word has this (R51: "No dispatch word is illegal"). Safe: the decoder answers no
  instruction. -/
  | noRow (x : Word)
  /-- The spelling's mnemonic disagrees with its index (R59). Safe: refused. -/
  | illFormedSpelling (sp : Spelling)
deriving DecidableEq, Repr

/-- The instruction a dispatch word stands for (R50, R60). -/
def decode (x : Word) : Except DecodeError Instr :=
  match rows.find? (fun r => r.matches x) with
  | some r => .ok (r.build x)
  | none => .error (.noRow x)

/-- The dispatch word of an instruction: the fixed bits of its row's pattern, then its free bits (R50). -/
def encode : Instr → Word
  | .amateur0 i => 0b00#2 ++ i
  | .amateur64 i => 0b0100#4 ++ i
  | .txtune80 i => 0b0101#4 ++ i
  | .txtune96 i => 0b0110#4 ++ i
  | .txtune112 => 0b01110000#8
  | .rxtune113 => 0b01110001#8
  | .rxtune114 i => 0b0111001#7 ++ i
  | .rxtune116 i => 0b011101#6 ++ i
  | .rxtune120 i => 0b01111#5 ++ i
  | .commercial128 i => 0b10#2 ++ i
  | .commercial192 i => 0b110#3 ++ i
  | .commercial224 i => 0b1110000#7 ++ i
  | .commercial226 => 0b11100010#8
  | .unused227 => 0b11100011#8
  | .unused228 i => 0b111001#6 ++ i
  | .unused232 i => 0b11101#5 ++ i
  | .testmode240 i => 0b111100#6 ++ i
  | .testmode244 i => 0b1111010#7 ++ i
  | .unused246 i => 0b1111011#7 ++ i
  | .unused248 i => 0b111110#6 ++ i
  | .unused252 i => 0b1111110#7 ++ i
  | .unused254 => 0b11111110#8
  | .ledtest255 => 0b11111111#8

/-- The mode whose command an instruction is: the mode column of R50. -/
def Instr.mode : Instr → OperatingMode
  | .amateur0 _ => .amateur
  | .amateur64 _ => .amateur
  | .txtune80 _ => .txTuning
  | .txtune96 _ => .txTuning
  | .txtune112 => .txTuning
  | .rxtune113 => .rxTuning
  | .rxtune114 _ => .rxTuning
  | .rxtune116 _ => .rxTuning
  | .rxtune120 _ => .rxTuning
  | .commercial128 _ => .commercial
  | .commercial192 _ => .commercial
  | .commercial224 _ => .commercial
  | .commercial226 => .commercial
  | .unused227 => .unused
  | .unused228 _ => .unused
  | .unused232 _ => .unused
  | .testmode240 _ => .testMode
  | .testmode244 _ => .testMode
  | .unused246 _ => .unused
  | .unused248 _ => .unused
  | .unused252 _ => .unused
  | .unused254 => .unused
  | .ledtest255 => .ledTest

/-- The instruction the decoder reads from the table's numbering of an instruction word: the word's bits are `w`, all bits
from `nbits` up are 0, and every dispatch word is 8 bits long (R47). A number that needs more than 8 bits is no index
(R51): no instruction. -/
def decodeTableWord (nbits w : Nat) : Option Instr :=
  if w % 2 ^ nbits < 256 then (decode (BitVec.ofNat 8 (w % 2 ^ nbits))).toOption else none

/-- The instruction a spelled command stands for; an ill-formed spelling is refused (R59). -/
def assemble (sp : Spelling) : Except DecodeError Instr :=
  if sp.wellFormed then decode sp.index else .error (.illFormedSpelling sp)

/-- The spelling of an instruction (R59). -/
def Instr.spelling (i : Instr) : Spelling := ⟨i.mode, encode i⟩

/-- The command mnemonics of R48. -/
def mnemonicText : OperatingMode → String
  | .amateur => "AMATEUR"
  | .txTuning => "TXTUNE"
  | .rxTuning => "RXTUNE"
  | .commercial => "COMMERCIAL"
  | .testMode => "TESTMODE"
  | .ledTest => "LEDTEST"
  | .unused => "UNUSED"

/-- One hexadecimal digit. -/
def hexDigit (d : Nat) : String := ((["0", "1", "2", "3", "4", "5", "6", "7", "8", "9", "A", "B", "C", "D", "E", "F"])[d]?).getD "?"

/-- A spelled command as R59 writes it, for example `TESTMODE 0xF2`. -/
def Spelling.text (sp : Spelling) : String :=
  mnemonicText sp.mnemonic ++ " 0x" ++ hexDigit (sp.index.toNat / 16) ++ hexDigit (sp.index.toNat % 16)

/-- The channel names of R25. -/
def channelText : Channel → String
  | .tx => "TX"
  | .rx => "RX"

/-- The six line names of R25. -/
def lineText : Line → String
  | .txClk => "TX_CLK"
  | .txData => "TX_DATA"
  | .txLe => "TX_LE"
  | .rxClk => "RX_CLK"
  | .rxData => "RX_DATA"
  | .rxLe => "RX_LE"

/-- The contract's indicator modes (R89). -/
def indModeText : IndMode → String
  | .off => "Off"
  | .blink => "Blink"
  | .on => "On"

/-- A trace event as R59 and R11 write it. -/
def eventText : Event → String
  | .level p v => "L(" ++ lineText p ++ "," ++ (if v then "1" else "0") ++ ")"
  | .direction p .output => "D(" ++ lineText p ++ ",Out)"
  | .direction p .input => "D(" ++ lineText p ++ ",In)"
  | .wait => "W"
  | .indicator ch m => "I(" ++ channelText ch ++ "," ++ indModeText m ++ ")"

/-- The hexadecimal digits of a value, at most `fuel` of them, put before `tail`. -/
def hexDigits : Nat → Nat → String → String
  | 0, _, tail => tail
  | fuel + 1, v, tail =>
    if v / 16 = 0 then hexDigit v ++ tail else hexDigits fuel (v / 16) (hexDigit (v % 16) ++ tail)

/-- A value of any size as `0x` and its digits (R9; log 13). A value has at most `v + 1` digits. -/
def hexText (v : Nat) : String := "0x" ++ hexDigits (v + 1) v ""

/-- A bit as R59 writes it. -/
def bitText (b : Bool) : String := if b then "1" else "0"

/-- An internal operation as R59 writes it, for example `SENDFIELD TX, 0x1234, 1, 16` (R90). -/
def Operation.text : Operation → String
  | .sendField c =>
    "SENDFIELD " ++ channelText c.ch ++ ", " ++ hexText c.raw ++ ", " ++ Nat.repr c.cb ++ ", " ++ Nat.repr c.n
  | .progCh ch => "PROGCH " ++ channelText ch
  | .program tx rx => "PROGRAM " ++ bitText tx ++ ", " ++ bitText rx

/-- A run of `k` delay events: nothing for 0, `W` for one, `W^k` for more (R59). -/
def delayRunText : Nat → List String
  | 0 => []
  | 1 => [eventText .wait]
  | k + 2 => ["W^" ++ Nat.repr (k + 2)]

/-- The words of a trace, `k` delay events standing before it. -/
def traceWords : Nat → List Event → List String
  | k, [] => delayRunText k
  | k, .wait :: l => traceWords (k + 1) l
  | k, .level p v :: l => delayRunText k ++ eventText (.level p v) :: traceWords 0 l
  | k, .direction p d :: l => delayRunText k ++ eventText (.direction p d) :: traceWords 0 l
  | k, .indicator ch m :: l => delayRunText k ++ eventText (.indicator ch m) :: traceWords 0 l

/-- A trace as R59 writes it, its runs of delay events shortened. -/
def traceText (l : List Event) : String := String.intercalate " " (traceWords 0 l)

end Sys2Proof
end

