-- ==== Sys2Proof/Config.lean ====
section
/-! DEFINITION. The configuration: what is fixed for an invocation and read by the block but never written (10_state.md
R17), and which the spec leaves to the system (00_scope.md R8). Each parameter is a constant WITHOUT A BODY, so that
whatever is proved of the machine holds for every value of it (log 9). -/

namespace Sys2Proof

/-- One row of TM_TABLE: the line to drive and the indicator pattern (R80, D14). -/
structure TmRow where
  line : Line
  txMode : IndMode
  rxMode : IndMode
deriving DecidableEq, Repr, Inhabited

/-- How LedTest's two indicators go together (R83, D16). -/
inductive LedPhase where
  | inPhase
  | antiPhase
deriving DecidableEq, Repr, Inhabited

/-- The parameters of 00_scope.md R8 and T_DELAY of R7. The two half periods are "natural numbers of at least 1": the
record holds each less 1. MAX_BITCOUNT is held less 19, the longest frame the block forms (log 10). -/
structure Params where
  freqTable : Word → TableEntry
  tmTable : Fin 6 → TmRow
  tmHalfUnitsLess1 : Nat
  tmStartLevel : Bool
  ledHalfUnitsLess1 : Nat
  ledPhase : LedPhase
  indActive : IndMode
  indIdle : IndMode
  maxBitCountLess19 : Nat
  tDelay : Nat

/-- TM_HALF_UNITS, at least 1 (R8, D15). -/
def Params.tmHalfUnits (P : Params) : Nat := P.tmHalfUnitsLess1 + 1

/-- LED_HALF_UNITS, at least 1 (R8, D16). -/
def Params.ledHalfUnits (P : Params) : Nat := P.ledHalfUnitsLess1 + 1

/-- MAX_BITCOUNT, at least 19 (R8, D20; U10 says the block never forms a longer call; log 10). -/
def Params.maxBitCount (P : Params) : Nat := P.maxBitCountLess19 + 19

/-- The spec's defaults (R7, R8), for the parameters that have one; the tables and LED_HALF_UNITS have none. The machine
itself does not take them: it takes `Config.params`. -/
def Params.withDefaults (freqTable : Word → TableEntry) (tmTable : Fin 6 → TmRow) (ledHalfUnitsLess1 : Nat) : Params :=
  { freqTable, tmTable, ledHalfUnitsLess1
    tmHalfUnitsLess1 := 0, tmStartLevel := true, ledPhase := .inPhase, indActive := .on, indIdle := .off
    maxBitCountLess19 := 13, tDelay := 5 }

/-- FREQ_TABLE: 256 entries, externally populated (D12, U12). -/
opaque Config.freqTable : Word → TableEntry

/-- TM_TABLE: six rows (D14, U13). -/
opaque Config.tmTable : Fin 6 → TmRow

/-- TM_HALF_UNITS less 1 (D15, U14). -/
opaque Config.tmHalfUnitsLess1 : Nat

/-- TM_START_LEVEL (D15, U14). -/
opaque Config.tmStartLevel : Bool

/-- LED_HALF_UNITS less 1 (D16, U15). -/
opaque Config.ledHalfUnitsLess1 : Nat

/-- LED_PHASE (D16, U15). -/
opaque Config.ledPhase : LedPhase

/-- IND_ACTIVE (D11, U16). -/
opaque Config.indActive : IndMode

/-- IND_IDLE (D11, U16). -/
opaque Config.indIdle : IndMode

/-- MAX_BITCOUNT less 19 (D20, U10). -/
opaque Config.maxBitCountLess19 : Nat

/-- T_DELAY in microseconds; no rule of the machine reads it (D23, U3). -/
opaque Config.tDelay : Nat

/-- The parameters the machine runs with: every one of them open. -/
def Config.params : Params :=
  { freqTable := Config.freqTable
    tmTable := Config.tmTable
    tmHalfUnitsLess1 := Config.tmHalfUnitsLess1
    tmStartLevel := Config.tmStartLevel
    ledHalfUnitsLess1 := Config.ledHalfUnitsLess1
    ledPhase := Config.ledPhase
    indActive := Config.indActive
    indIdle := Config.indIdle
    maxBitCountLess19 := Config.maxBitCountLess19
    tDelay := Config.tDelay }

end Sys2Proof
end

