-- ==== Sys2Proof/Machine/State.lean ====
section
/-! DEFINITION. The architectural state (10_state.md), plain data: the internal registers of R22, the sequencer state of
R24, the lines and indicators of R26 and R27, the trace of R28, FAULT of R29, and what the input ports of R15 carry at the
coming step boundaries (log 5). -/

namespace Sys2Proof.Machine

/-- `LINE[p].lvl`; Unknown is a value of its own, never read as 0 (R26, U6). -/
inductive LineLevel where
  | unknown
  | zero
  | one
deriving DecidableEq, Repr, Inhabited

/-- `LINE[p].dir` (R26). -/
inductive LineDir where
  | unknown
  | input
  | output
deriving DecidableEq, Repr, Inhabited

/-- The two fields of one logical line (R26). -/
structure LineState where
  lvl : LineLevel
  dir : LineDir
deriving DecidableEq, Repr, Inhabited

/-- The six logical lines (R25). -/
structure Lines where
  txClk : LineState
  txData : LineState
  txLe : LineState
  rxClk : LineState
  rxData : LineState
  rxLe : LineState
deriving DecidableEq, Repr, Inhabited

/-- `IND[ch]`; Unknown is a value of its own (R27). -/
inductive IndState where
  | unknown
  | off
  | blink
  | on
deriving DecidableEq, Repr, Inhabited

/-- The two indicators (R27). -/
structure Inds where
  tx : IndState
  rx : IndState
deriving DecidableEq, Repr, Inhabited

/-- The part of a channel's programming a PROG state performs (R24). -/
inductive Part where
  | ind
  | ref
  | cnt
deriving DecidableEq, Repr, Inhabited

/-- The two field frames: REF16 (R101) and CNT19 (R102). -/
inductive Frame where
  | ref16
  | cnt19
deriving DecidableEq, Repr, Inhabited

/-- The operands `raw` and `cb` of a SENDFIELD call (R90), which step 2 makes the composite of. No register of R22 holds them
between the call and step 2, so the positions before it carry them (DEDUCED, log 18). -/
structure SfOperands where
  raw : Nat
  cb : Bool
deriving DecidableEq, Repr, Inhabited

/-- The position inside SENDFIELD, the `k` of `SF(k)` in R24, by the steps of R91..R95: an event position says which event
of its step comes next; `comp` and `setBit` are the internal register writes of R92 and R93 (log 2). -/
inductive SfPos where
  /-- Step 1 (R91): its event `k + 1` is next, `SF(k)`. -/
  | init (k : Fin 6) (o : SfOperands)
  /-- Step 2 (R92): COMP is written next from the call's operands, still `SF(6)`. -/
  | comp (o : SfOperands)
  /-- Step 3 (R93): BITPOS is written with `i` next. -/
  | setBit (i : Nat)
  /-- Step 3 (R93): event `q + 1` of the bit at BITPOS is next. -/
  | bit (q : Fin 5)
  /-- Step 4 (R94): event `q + 1` of the latch pulse is next. -/
  | latch (q : Fin 5)
  /-- Step 5 (R95): event `q + 1` of the return to low is next. -/
  | low (q : Fin 4)
deriving DecidableEq, Repr

/-- The position inside TESTMODE_RUN, the `k` of `TM(k)` (R24, R81). -/
inductive TmPos where
  | indTx
  | indRx
  | dir
  /-- The level event of a half is next; `second = false` drives TM_START_LEVEL. -/
  | level (second : Bool)
  /-- `j` delay units of that half have been emitted and another is next. -/
  | hold (second : Bool) (j : Nat)
deriving DecidableEq, Repr

/-- The position inside LEDTEST_RUN, the `k` of `LED(k)` (R24, R83). -/
inductive LedPos where
  /-- The indicator event of channel `ch` in a half is next; TX comes first. -/
  | ind (second : Bool) (ch : Channel)
  /-- `j` delay units of that half have been emitted and another is next. -/
  | hold (second : Bool) (j : Nat)
deriving DecidableEq, Repr

/-- The sequencer state SEQ (R24), which plays the program counter. `sf` carries its return state: the PROG step, channel
and frame, that called it. -/
inductive Seq where
  | idle
  | resolve
  | prog (ch : Channel) (part : Part)
  | sf (pos : SfPos) (ch : Channel) (f : Frame)
  | tm (pos : TmPos)
  | led (pos : LedPos)
  | done
  | aborted
  | faulted
deriving DecidableEq, Repr

/-- What FAULT records: the event a collaborator failed to perform and its position in the trace, counted from 1 (R104). -/
inductive FaultReason where
  | collaboratorFailed (e : Event) (position : Nat)
deriving DecidableEq, Repr

/-- What the outside presents at one step boundary: the input ports of R15, and whether the collaborator asked to perform
an event at this step fails (R104). -/
structure Ports where
  cmdStart : Bool
  cmdIndex : Word
  abort : Bool
  fails : Bool
deriving DecidableEq, Repr, Inhabited

/-- Nothing arrives and no collaborator fails. -/
def Ports.quiet : Ports := ⟨false, 0#8, false, false⟩

/-- The architectural state. -/
structure State where
  /-- SEQ (R24). -/
  seq : Seq
  /-- IDX (R22). -/
  idx : Word
  /-- MODE (R22). -/
  mode : OperatingMode
  /-- SEL_RX (R22). -/
  selRx : Bool
  /-- SEL_TX (R22). -/
  selTx : Bool
  /-- ENTRY (R22). -/
  entry : TableEntry
  /-- COMP (R22), a natural number that no write truncates (log 20). -/
  comp : Nat
  /-- BITPOS (R22). -/
  bitpos : Nat
  /-- CUR_CH (R22). -/
  curCh : Channel
  /-- CUR_N (R22). -/
  curN : Nat
  /-- The logical lines (R26). -/
  lines : Lines
  /-- The indicators (R27). -/
  inds : Inds
  /-- The trace T, oldest event first (R28). -/
  trace : List Event
  /-- FAULT (R29). -/
  fault : Option FaultReason
  /-- THE MODEL'S OWN: what the ports carry at the coming step boundaries, the next first; quiet past the end (log 5). -/
  env : List Ports
deriving DecidableEq, Repr

/-- Why the model stops with a fault. The spec's own fault is a state, FAULTED (R104), and no value of this type. -/
inductive Fault where
  /-- Raised by a command's meaning when SEQ holds a position that command does not have (UNUSED at a PROG position, say).
  No run from reset reaches such a state (log 11). Safe: the model stops and claims nothing of what follows. -/
  | offSequence
deriving DecidableEq, Repr

/-- Why the model refuses. -/
inductive Refusal where
  /-- Raised by `exec` alone, for an instruction without a meaning. Safe. No instruction of this model is left so. -/
  | notModelled (mnemonic : String)
  /-- Raised at the call of SENDFIELD with a bit count or a control bit outside its domain, which D20 and U10 say a model
  refuses. Safe. The block never forms such a call. -/
  | bitCountOutOfRange (n : Nat)
  /-- Raised by `step` when no row of the table matches IDX. There is no such word (R51). Safe. -/
  | noRow (x : Word)
deriving DecidableEq, Repr

/-- A line no event has written (R26). -/
def LineState.unknown : LineState := ⟨.unknown, .unknown⟩

/-- The state at the start of an invocation (R30, R121). IDX, MODE, SEL_RX, SEL_TX, ENTRY, COMP, BITPOS, CUR_CH and CUR_N
are unspecified there; the values here are the model's (DESIGN CHOICE, log 8). `env` is the model's own (log 5). -/
def State.reset : State :=
  { seq := .idle
    idx := 0#8
    mode := .unused
    selRx := false
    selTx := false
    entry := ⟨⟨0#16, 0#19⟩, ⟨0#16, 0#19⟩⟩
    comp := 0
    bitpos := 0
    curCh := .tx
    curN := 0
    lines := ⟨.unknown, .unknown, .unknown, .unknown, .unknown, .unknown⟩
    inds := ⟨.unknown, .unknown⟩
    trace := []
    fault := none
    env := [] }

end Sys2Proof.Machine
end

