-- ==== Sys2Proof/Machine/Operands.lean ====
section
/-! DEFINITION. Operands: the table reads (20_memory.md R33), a channel's lines (43_serial_encoder.md section 2), the
operands of the two frames (41_programmer.md R75) and the composite (30_encoding.md R53). -/

namespace Sys2Proof.Machine

/-- `TableRead(idx)`: the whole entry; every index names one (R33, R63). -/
def tableRead (P : Params) (idx : Word) : TableEntry := P.freqTable idx

/-- The TestMode sub-index `IDX - 240`, in 0..5 for the indices 240..245 (R79). No other index forms one (R33); for
totality the difference is reduced modulo 6 there (log 16). -/
def tmSub (idx : Word) : Fin 6 := Fin.ofNat 6 (idx.toNat - 240)

/-- `TmRead(sub)` (R33, R80). -/
def tmRead (P : Params) (sub : Fin 6) : TmRow := P.tmTable sub

/-- `ch_DATA` (43_serial_encoder.md section 2). -/
def dataLine : Channel → Line
  | .tx => .txData
  | .rx => .rxData

/-- `ch_CLK`. -/
def clkLine : Channel → Line
  | .tx => .txClk
  | .rx => .rxClk

/-- `ch_LE`. -/
def leLine : Channel → Line
  | .tx => .txLe
  | .rx => .rxLe

/-- The channel a line belongs to (R25). -/
def lineChannel : Line → Channel
  | .txClk => .tx
  | .txData => .tx
  | .txLe => .tx
  | .rxClk => .rx
  | .rxData => .rx
  | .rxLe => .rx

/-- A channel's RegisterValue in an entry (R19). -/
def entryOf (e : TableEntry) : Channel → RegisterValue
  | .tx => e.tx
  | .rx => e.rx

/-- `rawValue` of a frame, zero-extended (R53, R55, R56). -/
def frameRaw (rv : RegisterValue) : Frame → Nat
  | .ref16 => rv.referenceDivider.toNat
  | .cnt19 => rv.programmableCounter.toNat

/-- `controlBit`: REF_CB = 1 and CNT_CB = 0 (R7, R75). -/
def frameCb : Frame → Bool
  | .ref16 => true
  | .cnt19 => false

/-- `bitCount`: REF_BITS = 16 and CNT_BITS = 19 (R7, R75). -/
def frameN : Frame → Nat
  | .ref16 => 16
  | .cnt19 => 19

/-- The SENDFIELD call PROGCH makes for a frame (R75). -/
def frameCall (e : TableEntry) (ch : Channel) (f : Frame) : SendFieldCall :=
  ⟨ch, frameRaw (entryOf e ch) f, (frameCb f).toNat, frameN f⟩

/-- The operands that call hands to SENDFIELD (R75, R90). -/
def frameOperands (e : TableEntry) (ch : Channel) (f : Frame) : SfOperands :=
  ⟨frameRaw (entryOf e ch) f, frameCb f⟩

/-- The operands `raw` and `cb` of a call (R90). -/
def callOperands (c : SendFieldCall) : SfOperands := ⟨c.raw, c.cb == 1⟩

/-- `composite = (rawValue << 1) | controlBit` (R53). -/
def composite (raw : Nat) (cb : Bool) : Nat := (raw <<< 1) ||| cb.toNat

/-- `bit(v, i)`, bit 0 the least significant (R9). -/
def bitOf (v i : Nat) : Bool := v.testBit i

end Sys2Proof.Machine
end

