-- ==== Sys2Proof/Machine/Ops.lean ====
section
/-! DEFINITION. The named operations: the four primitives (43_serial_encoder.md R86..R89), the emission of one event with the
collaborator fault (60_exceptions.md R104), ABORT (R106), the acceptance of CMD_START (40_mode_resolver.md R61), the internal
register writes (10_state.md R22), and the one action a step performs (R24). The block has no return from a fault or from
ABORT (R109), so there is none here. -/

namespace Sys2Proof.Machine

open Host (Outcome)

/-- What the ports carry at this step boundary (R15, log 5). -/
def State.ports (s : State) : Ports := s.env.headD Ports.quiet

/-- Move SEQ (`seq <- S`, R10). -/
def State.goto (q : Seq) (s : State) : State := { s with seq := q }

/-- The level a written bit gives a line (R26). -/
def levelOfBit : Bool → LineLevel
  | false => .zero
  | true => .one

/-- The direction a direction event gives a line (R26). -/
def dirOf : Direction → LineDir
  | .input => .input
  | .output => .output

/-- The state an indicator event gives an indicator (R27). -/
def indOf : IndMode → IndState
  | .off => .off
  | .blink => .blink
  | .on => .on

/-- The state of line `p`. -/
def Lines.get (l : Lines) : Line → LineState
  | .txClk => l.txClk
  | .txData => l.txData
  | .txLe => l.txLe
  | .rxClk => l.rxClk
  | .rxData => l.rxData
  | .rxLe => l.rxLe

/-- The lines with line `p` set. -/
def Lines.set (l : Lines) (p : Line) (v : LineState) : Lines :=
  match p with
  | .txClk => { l with txClk := v }
  | .txData => { l with txData := v }
  | .txLe => { l with txLe := v }
  | .rxClk => { l with rxClk := v }
  | .rxData => { l with rxData := v }
  | .rxLe => { l with rxLe := v }

/-- The state of a channel's indicator. -/
def Inds.get (x : Inds) : Channel → IndState
  | .tx => x.tx
  | .rx => x.rx

/-- The indicators with one channel's set. -/
def Inds.set (x : Inds) (ch : Channel) (v : IndState) : Inds :=
  match ch with
  | .tx => { x with tx := v }
  | .rx => { x with rx := v }

/-- Append an event to T (R28). -/
def State.record (e : Event) (s : State) : State := { s with trace := s.trace ++ [e] }

/-- `SetLevel(p, v)` (R86): the event is kept even where the level does not change (R39). -/
def setLevel (p : Line) (v : Bool) (s : State) : State :=
  { s.record (.level p v) with lines := s.lines.set p { s.lines.get p with lvl := levelOfBit v } }

/-- `SetDirection(p, d)` (R87). -/
def setDirection (p : Line) (d : Direction) (s : State) : State :=
  { s.record (.direction p d) with lines := s.lines.set p { s.lines.get p with dir := dirOf d } }

/-- `DelayUnit()` (R88). -/
def delayUnit (s : State) : State := s.record .wait

/-- `SetIndicator(ch, m)` (R89). -/
def setIndicator (ch : Channel) (m : IndMode) (s : State) : State :=
  { s.record (.indicator ch m) with inds := s.inds.set ch (indOf m) }

/-- The primitive an event is a call of (R11). -/
def perform (e : Event) (s : State) : State :=
  match e with
  | .level p v => setLevel p v s
  | .direction p d => setDirection p d s
  | .wait => delayUnit s
  | .indicator ch m => setIndicator ch m s

/-- A collaborator failure, the block's one fault (R104): FAULT records the event and its position, SEQ becomes FAULTED.
The failed event was not performed, so it neither stands in T nor touches a line or an indicator (R108; DEDUCED, log 7). -/
def takeFault (e : Event) (s : State) : State :=
  { s with seq := .faulted, fault := some (.collaboratorFailed e (s.trace.length + 1)) }

/-- Emit one event and move on, or stop in FAULTED where the collaborator fails (R42, R104). -/
def emit (e : Event) (next : Seq) (s : State) : State :=
  if s.ports.fails then takeFault e s else (perform e s).goto next

/-- ABORT (R106): `seq <- ABORTED`, nothing else changes and no event follows. -/
def takeAbort (s : State) : State := { s with seq := .aborted }

/-- Whether ABORT stops the block at this boundary: in every state but FAULTED, where it has no effect (R106, R107;
log 6). -/
def State.abortNow (s : State) : Bool := s.ports.abort && s.seq != .faulted

/-- The acceptance of a dispatch (R61): IDX takes CMD_INDEX and SEQ becomes RESOLVE. -/
def accept (s : State) : State := { s with idx := s.ports.cmdIndex, seq := .resolve }

/-- The move of a state in which no command runs: IDLE accepts CMD_START; every other such state, and IDLE without
CMD_START, has no move and changes nothing (R61, R116, U9; log 12). -/
def idleMove (s : State) : State := if s.seq == .idle && s.ports.cmdStart then accept s else s

/-- Whether a command is running: SEQ is none of IDLE, DONE, ABORTED, FAULTED (R24). -/
def Seq.running : Seq → Bool
  | .idle => false
  | .resolve => true
  | .prog _ _ => true
  | .sf _ _ _ => true
  | .tm _ => true
  | .led _ => true
  | .done => false
  | .aborted => false
  | .faulted => false

/-- The internal register writes (R22): the resolver's (R62..R64), the programmer's, SENDFIELD's steps 2 and 3. -/
inductive RegWrite where
  | resolve (mode : OperatingMode) (selTx selRx : Bool) (entry : TableEntry)
  | frame (ch : Channel) (n : Nat)
  | comp (c : Nat)
  | bitpos (i : Nat)
deriving DecidableEq, Repr

/-- The registers after a write. -/
def writeRegs (w : RegWrite) (s : State) : State :=
  match w with
  | .resolve m tx rx e => { s with mode := m, selTx := tx, selRx := rx, entry := e }
  | .frame ch n => { s with curCh := ch, curN := n }
  | .comp c => { s with comp := c }
  | .bitpos i => { s with bitpos := i }

/-- What a command does at a position of SEQ: one event or one register write, and where SEQ goes (R24). `stay` is a
position in which the block has no move; `off` a position the command does not have; `refuse` a SENDFIELD call outside its
domain (D20). -/
inductive Action where
  | emit (e : Event) (next : Seq)
  | write (w : RegWrite) (next : Seq)
  | stay
  | off
  | refuse (r : Refusal)
deriving DecidableEq, Repr

/-- Perform one action. -/
def act (a : Action) (s : State) : Outcome State Fault Refusal :=
  match a with
  | .emit e q => .next (emit e q s)
  | .write w q => .next ((writeRegs w s).goto q)
  | .stay => .next s
  | .off => .fault .offSequence
  | .refuse r => .refused r

/-- The ports move on to the next boundary (log 5). -/
def State.nextPorts (s : State) : State := { s with env := s.env.tail }

/-- The ports move on after a move that gives a next state. -/
def afterMove : Outcome State Fault Refusal → Outcome State Fault Refusal
  | .next s => .next s.nextPorts
  | .fault f => .fault f
  | .refused r => .refused r

end Sys2Proof.Machine
end

