-- ==== Sys2Proof/Machine/Diagnostics.lean ====
section
/-! DEFINITION. The diagnostic modes as sequencer moves (42_diagnostic_modes.md): TESTMODE_RUN (R81) and LEDTEST_RUN (R83).
Neither has a move to DONE (R82, R84). -/

namespace Sys2Proof.Machine

/-- The position after the level event or a delay unit of a TestMode half, `j` of its `H` delay units emitted (R81). -/
def tmHold (H : Nat) (second : Bool) (j : Nat) : TmPos := if j < H then .hold second j else .level (!second)

/-- TESTMODE_RUN's move at a position, with `row = TmRead(sub)` (R81). -/
def tmAction (P : Params) (row : TmRow) (pos : TmPos) : Action :=
  match pos with
  | .indTx => .emit (.indicator .tx row.txMode) (.tm .indRx)
  | .indRx => .emit (.indicator .rx row.rxMode) (.tm .dir)
  | .dir => .emit (.direction row.line .output) (.tm (.level false))
  | .level second =>
    .emit (.level row.line (if second then !P.tmStartLevel else P.tmStartLevel)) (.tm (tmHold P.tmHalfUnits second 0))
  | .hold second j => .emit .wait (.tm (tmHold P.tmHalfUnits second (j + 1)))

/-- The indicator mode LEDTEST_RUN sets for a channel in a half (R83). -/
def ledMode : LedPhase → Bool → Channel → IndMode
  | .inPhase, false, _ => .on
  | .inPhase, true, _ => .off
  | .antiPhase, false, .tx => .on
  | .antiPhase, false, .rx => .off
  | .antiPhase, true, .tx => .off
  | .antiPhase, true, .rx => .on

/-- The position after RX's indicator event or a delay unit of a LedTest half, `j` of its `K` delay units emitted (R83). -/
def ledHold (K : Nat) (second : Bool) (j : Nat) : LedPos := if j < K then .hold second j else .ind (!second) .tx

/-- LEDTEST_RUN's move at a position (R83). -/
def ledAction (P : Params) (pos : LedPos) : Action :=
  match pos with
  | .ind second .tx => .emit (.indicator .tx (ledMode P.ledPhase second .tx)) (.led (.ind second .rx))
  | .ind second .rx =>
    .emit (.indicator .rx (ledMode P.ledPhase second .rx)) (.led (ledHold P.ledHalfUnits second 0))
  | .hold second j => .emit .wait (.led (ledHold P.ledHalfUnits second (j + 1)))

end Sys2Proof.Machine
end

