-- ==== Sys2Proof/Machine/Encoder.lean ====
section
/-! DEFINITION. The serial bit-encoder SENDFIELD as sequencer moves (43_serial_encoder.md R90..R95): which event or register
write each position performs, and where SEQ goes. The lines are those of CUR_CH, the bit count is CUR_N, the bits come from
COMP at BITPOS (10_state.md R22), and COMP from the operands of the call (R90). The decisions D5..D8 and the conflicts C1..C4 are followed (UNVERIFIED, log 14). -/

namespace Sys2Proof.Machine

/-- Step 1's events (R91). -/
def initEvent (ch : Channel) : Fin 6 → Event
  | 0 => .level (dataLine ch) false
  | 1 => .level (clkLine ch) false
  | 2 => .level (leLine ch) false
  | 3 => .direction (dataLine ch) .output
  | 4 => .direction (clkLine ch) .output
  | 5 => .direction (leLine ch) .output

/-- Step 3's events for one bit of value `b` (R93). -/
def bitEvent (ch : Channel) (b : Bool) : Fin 5 → Event
  | 0 => .level (dataLine ch) b
  | 1 => .wait
  | 2 => .level (clkLine ch) true
  | 3 => .wait
  | 4 => .level (clkLine ch) false

/-- Step 4's events (R94). -/
def latchEvent (ch : Channel) : Fin 5 → Event
  | 0 => .wait
  | 1 => .level (leLine ch) true
  | 2 => .wait
  | 3 => .level (leLine ch) false
  | 4 => .wait

/-- Step 5's events (R95). -/
def lowEvent (ch : Channel) : Fin 4 → Event
  | 0 => .level (dataLine ch) false
  | 1 => .level (clkLine ch) false
  | 2 => .level (leLine ch) false
  | 3 => .wait

/-- The loop test of R93 with `m` bit positions left, `m-1` downto 0: BITPOS is written with the next one, or the loop is
over and step 4 begins. -/
def bitLoop : Nat → SfPos
  | 0 => .latch 0
  | i + 1 => .setBit i

/-- Where PROGRAM goes when a channel's step is over: RX is processed wholly before TX, and PROGRAM's return goes to DONE
(R65, R73, R74). -/
def afterChannel : Channel → Seq
  | .rx => .prog .tx .ind
  | .tx => .done

/-- Where SENDFIELD returns to: REF16 is followed by CNT19, and CNT19 ends the channel (R75, D5). -/
def sfReturn (ch : Channel) : Frame → Seq
  | .ref16 => .prog ch .cnt
  | .cnt19 => afterChannel ch

/-- How many of SENDFIELD's events, numbered as in R96, precede a position: the `k` of `SF(k)` (R24). `n` is CUR_N and `b`
is BITPOS. -/
def sfEventsBefore (n b : Nat) : SfPos → Nat
  | .init k _ => k
  | .comp _ => 6
  | .setBit i => 6 + 5 * (n - 1 - i)
  | .bit q => 6 + 5 * (n - 1 - b) + q
  | .latch q => 6 + 5 * n + q
  | .low q => 11 + 5 * n + q

/-- SENDFIELD's move at a position, called by the PROG step `(ch, f)` (R90..R95). Step 2 keeps every bit of the composite: for a
`raw` of more than MAX_BITCOUNT bits COMP is wider than R22's bound, which R90 does not put on `raw` (DESIGN CHOICE, log 20). -/
def sfAction (s : State) (pos : SfPos) (ch : Channel) (f : Frame) : Action :=
  match pos with
  | .init k o => .emit (initEvent s.curCh k) (.sf (if k = 5 then .comp o else .init (k + 1) o) ch f)
  | .comp o => .write (.comp (composite o.raw o.cb)) (.sf (bitLoop s.curN) ch f)
  | .setBit i => .write (.bitpos i) (.sf (.bit 0) ch f)
  | .bit q => .emit (bitEvent s.curCh (bitOf s.comp s.bitpos) q) (.sf (if q = 4 then bitLoop s.bitpos else .bit (q + 1)) ch f)
  | .latch q => .emit (latchEvent s.curCh q) (.sf (if q = 4 then .low 0 else .latch (q + 1)) ch f)
  | .low q => .emit (lowEvent s.curCh q) (if q = 3 then sfReturn ch f else .sf (.low (q + 1)) ch f)

/-- A call of SENDFIELD (R90), made by the PROG step of frame `f` of the call's channel, where it returns to (R24): CUR_CH and
CUR_N are written and SENDFIELD begins with the call's `raw` and `cb`. A call outside SENDFIELD's domain is refused (D20). -/
def callSendField (P : Params) (c : SendFieldCall) (f : Frame) : Action :=
  if c.wellFormed P.maxBitCount then .write (.frame c.ch c.n) (.sf (.init 0 (callOperands c)) c.ch f)
  else .refuse (.bitCountOutOfRange c.n)

end Sys2Proof.Machine
end

