-- ==== Sys2Proof/Machine/Flags.lean ====
section
/-! DEFINITION. The block's only flags, the channel-selection bits SEL_TX and SEL_RX (10_state.md R22), as functions of the
mode: the table of 40_mode_resolver.md R64. -/

namespace Sys2Proof.Machine

/-- SEL_TX (programTx) of a mode (R64). -/
def selTxOf : OperatingMode → Bool
  | .amateur => true
  | .txTuning => true
  | .rxTuning => false
  | .commercial => true
  | .testMode => false
  | .ledTest => false
  | .unused => false

/-- SEL_RX (programRx) of a mode (R64). -/
def selRxOf : OperatingMode → Bool
  | .amateur => true
  | .txTuning => false
  | .rxTuning => true
  | .commercial => true
  | .testMode => false
  | .ledTest => false
  | .unused => false

/-- The flag PROGRAM tests for a channel (R73). -/
def State.selected (s : State) : Channel → Bool
  | .tx => s.selTx
  | .rx => s.selRx

end Sys2Proof.Machine
end

