-- ==== Sys2Proof/Machine/Programmer.lean ====
section
/-! DEFINITION. The synthesizer programmer as sequencer moves (41_programmer.md R73..R77): RX before TX, an indicator event
for each channel, and for a selected channel the frames REF16 and CNT19. -/

namespace Sys2Proof.Machine

/-- PROGRAM's move at PROG(ch, part): the indicator event of R73 with the modes of R76, or the call of a frame (R75). -/
def progAction (P : Params) (s : State) (ch : Channel) (part : Part) : Action :=
  match part with
  | .ind =>
    if s.selected ch then .emit (.indicator ch P.indActive) (.prog ch .ref)
    else .emit (.indicator ch P.indIdle) (afterChannel ch)
  | .ref => callSendField P (frameCall s.entry ch .ref16) .ref16
  | .cnt => callSendField P (frameCall s.entry ch .cnt19) .cnt19

end Sys2Proof.Machine
end

