-- ==== Sys2Proof/Machine/Resolver.lean ====
section
/-! DEFINITION. The mode resolver (40_mode_resolver.md R62..R65), and what each kind of command does at each position of SEQ
(R66..R72). -/

namespace Sys2Proof.Machine

/-- `modeOf`, the priority table of R62 and R48. -/
def modeOf (x : Word) : OperatingMode :=
  if x.toNat ≤ 79 then .amateur
  else if 80 ≤ x.toNat ∧ x.toNat ≤ 112 then .txTuning
  else if 113 ≤ x.toNat ∧ x.toNat ≤ 127 then .rxTuning
  else if 128 ≤ x.toNat ∧ x.toNat ≤ 226 then .commercial
  else if 240 ≤ x.toNat ∧ x.toNat ≤ 245 then .testMode
  else if x.toNat = 255 then .ledTest
  else .unused

/-- RESOLVE's register write: MODE, SEL_TX, SEL_RX and ENTRY, in the one state (R62, R63, R64; log 1). -/
def resolveWrite (P : Params) (mode : OperatingMode) (idx : Word) : RegWrite :=
  .resolve mode (selTxOf mode) (selRxOf mode) (tableRead P idx)

/-- A programming command (R66..R69): RESOLVE goes to PROGRAM (R65), whose first position is RX's indicator event. -/
def programmingAction (P : Params) (mode : OperatingMode) (idx : Word) (s : State) : Action :=
  match s.seq with
  | .resolve => .write (resolveWrite P mode idx) (.prog .rx .ind)
  | .prog ch part => progAction P s ch part
  | .sf pos ch f => sfAction s pos ch f
  | .tm _ => .off
  | .led _ => .off
  | .idle => .stay
  | .done => .stay
  | .aborted => .stay
  | .faulted => .stay

/-- TESTMODE (R70): RESOLVE goes to TM(0), and the run never ends. -/
def testModeAction (P : Params) (idx : Word) (s : State) : Action :=
  match s.seq with
  | .resolve => .write (resolveWrite P .testMode idx) (.tm .indTx)
  | .tm pos => tmAction P (tmRead P (tmSub idx)) pos
  | .prog _ _ => .off
  | .sf _ _ _ => .off
  | .led _ => .off
  | .idle => .stay
  | .done => .stay
  | .aborted => .stay
  | .faulted => .stay

/-- LEDTEST (R71): RESOLVE goes to LED(0), and the run never ends. -/
def ledTestAction (P : Params) (idx : Word) (s : State) : Action :=
  match s.seq with
  | .resolve => .write (resolveWrite P .ledTest idx) (.led (.ind false .tx))
  | .led pos => ledAction P pos
  | .prog _ _ => .off
  | .sf _ _ _ => .off
  | .tm _ => .off
  | .idle => .stay
  | .done => .stay
  | .aborted => .stay
  | .faulted => .stay

/-- UNUSED (R72): RESOLVE goes to DONE and no event is emitted. -/
def unusedAction (P : Params) (idx : Word) (s : State) : Action :=
  match s.seq with
  | .resolve => .write (resolveWrite P .unused idx) .done
  | .prog _ _ => .off
  | .sf _ _ _ => .off
  | .tm _ => .off
  | .led _ => .off
  | .idle => .stay
  | .done => .stay
  | .aborted => .stay
  | .faulted => .stay

/-- What the command of a mode does at the position SEQ holds, for any parameters. -/
def commandAction (P : Params) (mode : OperatingMode) (idx : Word) (s : State) : Action :=
  match mode with
  | .amateur => programmingAction P .amateur idx s
  | .txTuning => programmingAction P .txTuning idx s
  | .rxTuning => programmingAction P .rxTuning idx s
  | .commercial => programmingAction P .commercial idx s
  | .testMode => testModeAction P idx s
  | .ledTest => ledTestAction P idx s
  | .unused => unusedAction P idx s

end Sys2Proof.Machine
end

