-- ==== Sys2Proof/Machine/DiagnosticCommands.lean ====
section
/-! DEFINITION. The meanings of the commands TESTMODE and LEDTEST (40_mode_resolver.md R70, R71), one definition per row of the opcode
table: the one move the command makes at the position SEQ holds (10_state.md R24; log 3), with the open parameters of
Config. -/

namespace Sys2Proof.Machine

open Host (Outcome)

/-- TESTMODE, row 111100ii (R70). -/
def execTestmode240 (i : BitVec 2) (s : State) : Outcome State Fault Refusal :=
  act (testModeAction Config.params (encode (.testmode240 i)) s) s

/-- TESTMODE, row 1111010i (R70). -/
def execTestmode244 (i : BitVec 1) (s : State) : Outcome State Fault Refusal :=
  act (testModeAction Config.params (encode (.testmode244 i)) s) s

/-- LEDTEST, row 11111111 (R71). -/
def execLedtest255 (s : State) : Outcome State Fault Refusal :=
  act (ledTestAction Config.params (encode .ledtest255) s) s

end Sys2Proof.Machine
end

