-- ==== Sys2Proof/Machine/ProgrammingCommands.lean ====
section
/-! DEFINITION. The meanings of the commands AMATEUR, TXTUNE, RXTUNE and COMMERCIAL (40_mode_resolver.md R66..R69), one definition per row of the opcode
table: the one move the command makes at the position SEQ holds (10_state.md R24; log 3), with the open parameters of
Config. -/

namespace Sys2Proof.Machine

open Host (Outcome)

/-- AMATEUR, row 00iiiiii (R66). -/
def execAmateur0 (i : BitVec 6) (s : State) : Outcome State Fault Refusal :=
  act (programmingAction Config.params .amateur (encode (.amateur0 i)) s) s

/-- AMATEUR, row 0100iiii (R66). -/
def execAmateur64 (i : BitVec 4) (s : State) : Outcome State Fault Refusal :=
  act (programmingAction Config.params .amateur (encode (.amateur64 i)) s) s

/-- TXTUNE, row 0101iiii (R67). -/
def execTxtune80 (i : BitVec 4) (s : State) : Outcome State Fault Refusal :=
  act (programmingAction Config.params .txTuning (encode (.txtune80 i)) s) s

/-- TXTUNE, row 0110iiii (R67). -/
def execTxtune96 (i : BitVec 4) (s : State) : Outcome State Fault Refusal :=
  act (programmingAction Config.params .txTuning (encode (.txtune96 i)) s) s

/-- TXTUNE, row 01110000 (R67). -/
def execTxtune112 (s : State) : Outcome State Fault Refusal :=
  act (programmingAction Config.params .txTuning (encode .txtune112) s) s

/-- RXTUNE, row 01110001 (R68). -/
def execRxtune113 (s : State) : Outcome State Fault Refusal :=
  act (programmingAction Config.params .rxTuning (encode .rxtune113) s) s

/-- RXTUNE, row 0111001i (R68). -/
def execRxtune114 (i : BitVec 1) (s : State) : Outcome State Fault Refusal :=
  act (programmingAction Config.params .rxTuning (encode (.rxtune114 i)) s) s

/-- RXTUNE, row 011101ii (R68). -/
def execRxtune116 (i : BitVec 2) (s : State) : Outcome State Fault Refusal :=
  act (programmingAction Config.params .rxTuning (encode (.rxtune116 i)) s) s

/-- RXTUNE, row 01111iii (R68). -/
def execRxtune120 (i : BitVec 3) (s : State) : Outcome State Fault Refusal :=
  act (programmingAction Config.params .rxTuning (encode (.rxtune120 i)) s) s

/-- COMMERCIAL, row 10iiiiii (R69). -/
def execCommercial128 (i : BitVec 6) (s : State) : Outcome State Fault Refusal :=
  act (programmingAction Config.params .commercial (encode (.commercial128 i)) s) s

/-- COMMERCIAL, row 110iiiii (R69). -/
def execCommercial192 (i : BitVec 5) (s : State) : Outcome State Fault Refusal :=
  act (programmingAction Config.params .commercial (encode (.commercial192 i)) s) s

/-- COMMERCIAL, row 1110000i (R69). -/
def execCommercial224 (i : BitVec 1) (s : State) : Outcome State Fault Refusal :=
  act (programmingAction Config.params .commercial (encode (.commercial224 i)) s) s

/-- COMMERCIAL, row 11100010 (R69). -/
def execCommercial226 (s : State) : Outcome State Fault Refusal :=
  act (programmingAction Config.params .commercial (encode .commercial226) s) s

end Sys2Proof.Machine
end

