-- ==== Sys2Proof/Machine/UnusedCommands.lean ====
section
/-! DEFINITION. The meanings of the command UNUSED (40_mode_resolver.md R72), one definition per row of the opcode
table: the one move the command makes at the position SEQ holds (10_state.md R24; log 3), with the open parameters of
Config. -/

namespace Sys2Proof.Machine

open Host (Outcome)

/-- UNUSED, row 11100011 (R72). -/
def execUnused227 (s : State) : Outcome State Fault Refusal :=
  act (unusedAction Config.params (encode .unused227) s) s

/-- UNUSED, row 111001ii (R72). -/
def execUnused228 (i : BitVec 2) (s : State) : Outcome State Fault Refusal :=
  act (unusedAction Config.params (encode (.unused228 i)) s) s

/-- UNUSED, row 11101iii (R72). -/
def execUnused232 (i : BitVec 3) (s : State) : Outcome State Fault Refusal :=
  act (unusedAction Config.params (encode (.unused232 i)) s) s

/-- UNUSED, row 1111011i (R72). -/
def execUnused246 (i : BitVec 1) (s : State) : Outcome State Fault Refusal :=
  act (unusedAction Config.params (encode (.unused246 i)) s) s

/-- UNUSED, row 111110ii (R72). -/
def execUnused248 (i : BitVec 2) (s : State) : Outcome State Fault Refusal :=
  act (unusedAction Config.params (encode (.unused248 i)) s) s

/-- UNUSED, row 1111110i (R72). -/
def execUnused252 (i : BitVec 1) (s : State) : Outcome State Fault Refusal :=
  act (unusedAction Config.params (encode (.unused252 i)) s) s

/-- UNUSED, row 11111110 (R72). -/
def execUnused254 (s : State) : Outcome State Fault Refusal :=
  act (unusedAction Config.params (encode .unused254) s) s

end Sys2Proof.Machine
end

