-- ==== Sys2Proof/Machine/Dispatch.lean ====
section
/-! DEFINITION. The dispatch: one arm per constructor of `Instr`, each a direct call of that instruction's meaning. -/

namespace Sys2Proof.Machine

open Host (Outcome)

def exec (i : Instr) (s : State) : Host.Outcome State Fault Refusal :=
  match i with
  | .amateur0 x => Sys2Proof.Machine.execAmateur0 x s
  | .amateur64 x => Sys2Proof.Machine.execAmateur64 x s
  | .txtune80 x => Sys2Proof.Machine.execTxtune80 x s
  | .txtune96 x => Sys2Proof.Machine.execTxtune96 x s
  | .txtune112 => Sys2Proof.Machine.execTxtune112 s
  | .rxtune113 => Sys2Proof.Machine.execRxtune113 s
  | .rxtune114 x => Sys2Proof.Machine.execRxtune114 x s
  | .rxtune116 x => Sys2Proof.Machine.execRxtune116 x s
  | .rxtune120 x => Sys2Proof.Machine.execRxtune120 x s
  | .commercial128 x => Sys2Proof.Machine.execCommercial128 x s
  | .commercial192 x => Sys2Proof.Machine.execCommercial192 x s
  | .commercial224 x => Sys2Proof.Machine.execCommercial224 x s
  | .commercial226 => Sys2Proof.Machine.execCommercial226 s
  | .unused227 => Sys2Proof.Machine.execUnused227 s
  | .unused228 x => Sys2Proof.Machine.execUnused228 x s
  | .unused232 x => Sys2Proof.Machine.execUnused232 x s
  | .testmode240 x => Sys2Proof.Machine.execTestmode240 x s
  | .testmode244 x => Sys2Proof.Machine.execTestmode244 x s
  | .unused246 x => Sys2Proof.Machine.execUnused246 x s
  | .unused248 x => Sys2Proof.Machine.execUnused248 x s
  | .unused252 x => Sys2Proof.Machine.execUnused252 x s
  | .unused254 => Sys2Proof.Machine.execUnused254 s
  | .ledtest255 => Sys2Proof.Machine.execLedtest255 s

end Sys2Proof.Machine
end

