-- ==== Sys2Proof/Machine/Step.lean ====
section
/-! DEFINITION. One step of the block: ABORT if it arrives at this boundary (60_exceptions.md R106), else the move of the
command IDX holds where one is running, else the move of an idle or final state; then the ports move on. -/

namespace Sys2Proof.Machine

/-- The move of the running command: the instruction IDX holds is decoded and executed (R24, R61). -/
def runningMove (s : State) : Host.Outcome State Fault Refusal :=
  match decode s.idx with
  | .ok i => exec i s
  | .error _ => .refused (.noRow s.idx)

/-- One step. -/
def step (s : State) : Host.Outcome State Fault Refusal :=
  afterMove (if s.abortNow then .next (takeAbort s) else if s.seq.running then runningMove s else .next (idleMove s))

/-- The state in which the very next step runs the dispatch word `w`: IDX holds it and SEQ is RESOLVE, as after the
acceptance of a dispatch (R61). Where ABORT stands at the next boundary, a quiet boundary is put before it, since ABORT
would stop the step (log 4). -/
def State.withFetchWord (s : State) (nbits w : Nat) : State :=
  { s with
    idx := BitVec.ofNat 8 (w % 2 ^ nbits)
    seq := .resolve
    env := if s.ports.abort then Ports.quiet :: s.env else s.env }

end Sys2Proof.Machine
end

