-- ==== Sys2Proof/Machine/Frames.lean ====
section
/-! DEFINITION. What the commands put on the trace, as the spec lists it: the bits of a frame (30_encoding.md R54), the event
lists of SENDFIELD (43_serial_encoder.md R96), of a channel and of PROGRAM (41_programmer.md R73..R77), of the diagnostic
runs (42_diagnostic_modes.md R81, R83), and the counts over a trace (R97, R78; 70_reset_and_hazards.md R133). The machine
does not use these; statements about it do. -/

namespace Sys2Proof.Machine

/-- The frame's bits, first-sent first: `S[j] = bit(composite, n-1-j)` (R54). -/
def frameBits (raw : Nat) (cb : Bool) (n : Nat) : List Bool :=
  (List.range n).map fun j => bitOf (composite raw cb) (n - 1 - j)

/-- The five events of one bit (R93). -/
def bitEvents (ch : Channel) (b : Bool) : List Event :=
  [.level (dataLine ch) b, .wait, .level (clkLine ch) true, .wait, .level (clkLine ch) false]

/-- Events 1..6 of R96 (step 1, R91). -/
def initEvents (ch : Channel) : List Event :=
  [.level (dataLine ch) false, .level (clkLine ch) false, .level (leLine ch) false,
   .direction (dataLine ch) .output, .direction (clkLine ch) .output, .direction (leLine ch) .output]

/-- Events 7+5n..11+5n of R96 (step 4, R94). -/
def latchEvents (ch : Channel) : List Event :=
  [.wait, .level (leLine ch) true, .wait, .level (leLine ch) false, .wait]

/-- Events 12+5n..15+5n of R96 (step 5, R95). -/
def lowEvents (ch : Channel) : List Event :=
  [.level (dataLine ch) false, .level (clkLine ch) false, .level (leLine ch) false, .wait]

/-- The complete event list of `SENDFIELD(ch, raw, cb, n)` (R96). -/
def sendFieldEvents (ch : Channel) (raw : Nat) (cb : Bool) (n : Nat) : List Event :=
  initEvents ch ++ (frameBits raw cb n).flatMap (bitEvents ch) ++ latchEvents ch ++ lowEvents ch

/-- The events of one frame of a RegisterValue (R101, R102). -/
def frameEvents (ch : Channel) (rv : RegisterValue) (f : Frame) : List Event :=
  sendFieldEvents ch (frameRaw rv f) (frameCb f) (frameN f)

/-- The events of a SENDFIELD call (R96). -/
def callEvents (c : SendFieldCall) : List Event := sendFieldEvents c.ch c.raw (callOperands c).cb c.n

/-- The events of R75's PROGCH, which has no indicator event of its own: REF16, then CNT19 (log 19). -/
def progChEvents (ch : Channel) (rv : RegisterValue) : List Event :=
  frameEvents ch rv .ref16 ++ frameEvents ch rv .cnt19

/-- The events of PROGRAM's step for one channel (R73). -/
def channelEvents (P : Params) (ch : Channel) (rv : RegisterValue) (selected : Bool) : List Event :=
  if selected then .indicator ch P.indActive :: progChEvents ch rv else [.indicator ch P.indIdle]

/-- The events of `PROGRAM(entry, programTx, programRx)`: RX's step, then TX's (R73, R74, R77). -/
def programEvents (P : Params) (e : TableEntry) (programTx programRx : Bool) : List Event :=
  channelEvents P .rx e.rx programRx ++ channelEvents P .tx e.tx programTx

/-- What an operation of R59 expands to: events and SENDFIELD calls. -/
inductive Piece where
  | event (e : Event)
  | call (c : SendFieldCall)
deriving DecidableEq, Repr

/-- The events of a piece. -/
def Piece.events : Piece → List Event
  | .event e => [e]
  | .call c => callEvents c

/-- The expansion of R59's pseudo-operation `PROGCH ch`: the indicator event, then the two SENDFIELD calls of R75 (log 19). -/
def progChExpansion (P : Params) (e : TableEntry) (ch : Channel) : List Piece :=
  [.event (.indicator ch P.indActive), .call (frameCall e ch .ref16), .call (frameCall e ch .cnt19)]

/-- PROGRAM's step for one channel in R59's terms: `PROGCH ch`, or the idle indicator event (R73). -/
def channelExpansion (P : Params) (e : TableEntry) (ch : Channel) (selected : Bool) : List Piece :=
  if selected then progChExpansion P e ch else [.event (.indicator ch P.indIdle)]

/-- What an internal operation expands to, with the entry it reads (R59, R73, R75). -/
def operationExpansion (P : Params) (e : TableEntry) : Operation → List Piece
  | .sendField c => [.call c]
  | .progCh ch => progChExpansion P e ch
  | .program tx rx => channelExpansion P e .rx rx ++ channelExpansion P e .tx tx

/-- The events of an internal operation. -/
def operationEvents (P : Params) (e : TableEntry) (op : Operation) : List Event :=
  (operationExpansion P e op).flatMap Piece.events

/-- TestMode's events before its loop (R81). -/
def tmSetupEvents (row : TmRow) : List Event :=
  [.indicator .tx row.txMode, .indicator .rx row.rxMode, .direction row.line .output]

/-- One turn of TestMode's loop (R81). -/
def tmCycleEvents (P : Params) (row : TmRow) : List Event :=
  .level row.line P.tmStartLevel :: List.replicate P.tmHalfUnits .wait ++
    .level row.line (!P.tmStartLevel) :: List.replicate P.tmHalfUnits .wait

/-- One turn of LedTest's loop (R83). -/
def ledCycleEvents (P : Params) : List Event :=
  match P.ledPhase with
  | .inPhase =>
    [.indicator .tx .on, .indicator .rx .on] ++ List.replicate P.ledHalfUnits .wait ++
      [.indicator .tx .off, .indicator .rx .off] ++ List.replicate P.ledHalfUnits .wait
  | .antiPhase =>
    [.indicator .tx .on, .indicator .rx .off] ++ List.replicate P.ledHalfUnits .wait ++
      [.indicator .tx .off, .indicator .rx .on] ++ List.replicate P.ledHalfUnits .wait

/-- A list repeated `m` times: `m` turns of a loop. -/
def turns (m : Nat) (l : List Event) : List Event := (List.replicate m l).flatten

/-- How many delay units a trace holds (R97). -/
def delayUnits (t : List Event) : Nat := t.count .wait

/-- The lower bound of a trace's duration: delay units at T_DELAY, without the collaborators' call overheads (R129, R133;
informative, log 15). -/
def minDuration (P : Params) (t : List Event) : Nat := delayUnits t * P.tDelay

/-- The channel an event is for; a delay unit is for none. -/
def eventChannel : Event → Option Channel
  | .level p _ => some (lineChannel p)
  | .direction p _ => some (lineChannel p)
  | .wait => none
  | .indicator ch _ => some ch

end Sys2Proof.Machine
end

