-- ==== Sys2Proof/Machine/HostPort.lean ====
section
/-! DEFINITION. The host's side of the interface (60_exceptions.md R117..R120; 30_encoding.md R58): what it makes of its
arguments, the state of an invocation it starts, and its exit status (log 17). -/

namespace Sys2Proof.Machine

/-- What the host does with its arguments. -/
inductive HostAction where
  /-- CMD_INDEX carries the index and CMD_START is raised once (R117). -/
  | dispatch (idx : Word)
  /-- An error message and exit status 1; no CMD_START (R118, D10). -/
  | rangeError
  /-- A usage message and exit status 0; no CMD_START (R119, D10). -/
  | usage
deriving DecidableEq, Repr

/-- The host's treatment of its arguments (R117, R118, R119). -/
def hostAction : List Int → HostAction
  | [n] => if hostArgumentInRange n then .dispatch (BitVec.ofNat 8 (n.toNat - 1)) else .rangeError
  | [] => .usage
  | _ :: _ :: _ => .usage

/-- A boundary at which the host raises no CMD_START; ABORT and a failure may still stand there. -/
def Ports.noStart (p : Ports) : Ports := { p with cmdStart := false }

/-- The host raises CMD_START with an index at boundary `wait`, counted from 0, and at no other (R117, R120). The list is what the
outside does at each boundary, quiet past its end; its ABORTs and failures stand as they are, at the boundary of CMD_START and before
it too, since ABORT may be raised at any time (R120). -/
def raiseStart (idx : Word) : Nat → List Ports → List Ports
  | 0, outside =>
    { outside.headD Ports.quiet with cmdStart := true, cmdIndex := idx } :: outside.tail.map Ports.noStart
  | wait + 1, outside => (outside.headD Ports.quiet).noStart :: raiseStart idx wait outside.tail

/-- What the ports carry in an invocation: CMD_START once for a dispatch (R117), and not at all for arguments the host refuses
(R118, R119). `outside` is what else the outside does; a CMD_START in it is none of the host's, so it is taken out. -/
def hostPorts (a : HostAction) (wait : Nat) (outside : List Ports) : List Ports :=
  match a with
  | .dispatch idx => raiseStart idx wait outside
  | .rangeError => outside.map Ports.noStart
  | .usage => outside.map Ports.noStart

/-- The state an invocation starts in: reset, with the ports as the host drives them (R117..R121, R123). -/
def invocation (a : HostAction) (wait : Nat) (outside : List Ports) : State :=
  { State.reset with env := hostPorts a wait outside }

/-- The host's exit status: 0 for a dispatch once the block is DONE (R120), none before that and none in ABORTED or FAULTED, where
the spec gives none. For refused arguments it is 1 or 0 (R118, R119); that an ABORT of the block does not change it is the model's
choice, since the spec does not say what the status of a refused invocation is when ABORT terminates it (DESIGN CHOICE, log 17). -/
def exitStatus (a : HostAction) (s : State) : Option Nat :=
  match a with
  | .rangeError => some 1
  | .usage => some 0
  | .dispatch _ => if s.seq = .done then some 0 else none

end Sys2Proof.Machine
end

