-- ==== Sys2Proof/Machine/Observe.lean ====
section
/-! DEFINITION. The line and indicator state as a function of the trace (10_state.md R28): each field holds the value of the
last event that wrote it, or Unknown. The machine does not use these; statements about it do. -/

namespace Sys2Proof.Machine

/-- What an event makes of the level of line `p`. -/
def levelStep (p : Line) (v : LineLevel) : Event → LineLevel
  | .level q b => if q = p then levelOfBit b else v
  | .direction _ _ => v
  | .wait => v
  | .indicator _ _ => v

/-- What an event makes of the direction of line `p`. -/
def dirStep (p : Line) (v : LineDir) : Event → LineDir
  | .level _ _ => v
  | .direction q d => if q = p then dirOf d else v
  | .wait => v
  | .indicator _ _ => v

/-- What an event makes of the indicator of channel `ch`. -/
def indStep (ch : Channel) (v : IndState) : Event → IndState
  | .level _ _ => v
  | .direction _ _ => v
  | .wait => v
  | .indicator c m => if c = ch then indOf m else v

/-- The level of line `p` after a trace that starts at Unknown (R28). -/
def levelAfter (t : List Event) (p : Line) : LineLevel := t.foldl (levelStep p) .unknown

/-- The direction of line `p` after a trace (R28). -/
def dirAfter (t : List Event) (p : Line) : LineDir := t.foldl (dirStep p) .unknown

/-- The indicator of channel `ch` after a trace (R28). -/
def indAfter (t : List Event) (ch : Channel) : IndState := t.foldl (indStep ch) .unknown

/-- How many rising edges a list of events makes on line `p`, whose level is `v` before it: level events of 1 while the level
is not 1 (R97). -/
def risingEdges (p : Line) : LineLevel → List Event → Nat
  | _, [] => 0
  | v, e :: l => (if e = .level p true ∧ v ≠ .one then 1 else 0) + risingEdges p (levelStep p v e) l

end Sys2Proof.Machine
end

