-- ==== Sys2Proof/Safety.lean ====
section
/-! DEFINITION. What claims about runs are stated in: how a run ends (70_reset_and_hazards.md R125), a quiet environment, and
the invariants of the state. -/

namespace Sys2Proof.Safety

open Sys2Proof Sys2Proof.Machine

/-- The state holds after exactly `k` steps from `s`. -/
def runsTo (k : Nat) (s t : State) : Prop := Sys2Proof.core.run k s = .next t

/-- "A run ends well when SEQ = DONE and FAULT is empty" (R125). -/
def endsWell (s : State) : Prop := s.seq = .done ∧ s.fault = none

/-- "A run ends badly when SEQ = FAULTED" (R125). -/
def endsBadly (s : State) : Prop := s.seq = .faulted

/-- "A run is cut short when SEQ = ABORTED" (R125). -/
def cutShort (s : State) : Prop := s.seq = .aborted

/-- No ABORT arrives and no collaborator fails at any coming boundary (a claim's premise, R106, R104). -/
def calm (s : State) : Prop := ∀ p ∈ s.env, p.abort = false ∧ p.fails = false

/-- Every line and indicator holds what the trace says: the last event that wrote it, or Unknown (R28). -/
def outputsFollowTrace (s : State) : Prop :=
  (∀ p, (s.lines.get p).lvl = levelAfter s.trace p ∧ (s.lines.get p).dir = dirAfter s.trace p) ∧
    ∀ ch, s.inds.get ch = indAfter s.trace ch

/-- Whether the command of a mode has a position (R65, R24). -/
def modeHas (m : OperatingMode) : Seq → Bool
  | .idle => true
  | .resolve => true
  | .prog _ _ => m == .amateur || m == .txTuning || m == .rxTuning || m == .commercial
  | .sf _ _ _ => m == .amateur || m == .txTuning || m == .rxTuning || m == .commercial
  | .tm _ => m == .testMode
  | .led _ => m == .ledTest
  | .done => true
  | .aborted => true
  | .faulted => true

/-- SEQ stands at a position of the command IDX holds (R24: "No state is skipped"). -/
def onSequence (s : State) : Prop := modeHas (modeOf s.idx) s.seq = true

/-- FAULT is empty exactly outside FAULTED (R29, R104). -/
def faultRecorded (s : State) : Prop := s.seq = .faulted ↔ s.fault ≠ none

/-- What the registers hold at a position of SENDFIELD: CUR_CH and CUR_N are the frame's, the operands are the frame's up to
step 2 and COMP is its composite after it, and BITPOS counts within the frame (R22, R23, R75, R92, R93). -/
def frameRegisters (s : State) : Prop :=
  match s.seq with
  | .sf pos ch f =>
    s.curCh = ch ∧ s.curN = frameN f ∧
      match pos with
      | .init _ o => o = frameOperands s.entry ch f
      | .comp o => o = frameOperands s.entry ch f
      | .setBit i => i < s.curN ∧ s.comp = composite (frameRaw (entryOf s.entry ch) f) (frameCb f)
      | .bit _ => s.bitpos < s.curN ∧ s.comp = composite (frameRaw (entryOf s.entry ch) f) (frameCb f)
      | .latch _ => s.comp = composite (frameRaw (entryOf s.entry ch) f) (frameCb f)
      | .low _ => s.comp = composite (frameRaw (entryOf s.entry ch) f) (frameCb f)
  | .idle => True
  | .resolve => True
  | .prog _ _ => True
  | .tm _ => True
  | .led _ => True
  | .done => True
  | .aborted => True
  | .faulted => True

/-- What RESOLVE wrote, kept for the whole dispatch: MODE is the mode of IDX, SEL_TX and SEL_RX its flags, ENTRY the table
entry of IDX (R23, R62, R63, R64). An ABORT may come before RESOLVE, so ABORTED says nothing. -/
def dispatchRegisters (s : State) : Prop :=
  match s.seq with
  | .idle => True
  | .resolve => True
  | .aborted => True
  | .prog _ _ => resolvedAs s
  | .sf _ _ _ => resolvedAs s
  | .tm _ => resolvedAs s
  | .led _ => resolvedAs s
  | .done => resolvedAs s
  | .faulted => resolvedAs s
where
  resolvedAs (s : State) : Prop :=
    s.mode = modeOf s.idx ∧ s.selTx = selTxOf s.mode ∧ s.selRx = selRxOf s.mode ∧ s.entry = Config.freqTable s.idx

/-- The widths of R22: CUR_N is at most MAX_BITCOUNT, BITPOS below it, COMP of at most MAX_BITCOUNT + 1 bits; so a bit position and
a raw value on their way into BITPOS and COMP fit too. -/
def registersFit (P : Params) (s : State) : Prop :=
  s.curN ≤ P.maxBitCount ∧ s.bitpos < P.maxBitCount ∧ s.comp < 2 ^ (P.maxBitCount + 1) ∧
    (∀ i ch f, s.seq = .sf (.setBit i) ch f → i < P.maxBitCount) ∧
    (∀ o ch f, s.seq = .sf (.comp o) ch f → o.raw < 2 ^ P.maxBitCount) ∧
    ∀ k o ch f, s.seq = .sf (.init k o) ch f → o.raw < 2 ^ P.maxBitCount

/-- The diagnostic commands hold SEQ: IDX is TESTMODE's or LEDTEST's, and SEQ is at RESOLVE, at a position of that command's
own run, or where an ABORT or a fault stopped it (R82, R84, R106, R104). -/
def inDiagnostic (s : State) : Prop :=
  match s.seq with
  | .resolve => modeOf s.idx = .testMode ∨ modeOf s.idx = .ledTest
  | .tm _ => modeOf s.idx = .testMode
  | .led _ => modeOf s.idx = .ledTest
  | .aborted => modeOf s.idx = .testMode ∨ modeOf s.idx = .ledTest
  | .faulted => modeOf s.idx = .testMode ∨ modeOf s.idx = .ledTest
  | .idle => False
  | .prog _ _ => False
  | .sf _ _ _ => False
  | .done => False

/-- SEQ stands in PROGRAM's step for a channel (R73, R74). -/
def inChannelStep (ch : Channel) : Seq → Bool
  | .prog c _ => c == ch
  | .sf _ c _ => c == ch
  | .idle => false
  | .resolve => false
  | .tm _ => false
  | .led _ => false
  | .done => false
  | .aborted => false
  | .faulted => false

end Sys2Proof.Safety
end

