-- ==== Sys2Proof/Certificates/Slice0/Obligations.lean ====
section
/-! DEFINITION. The statements for the provers, each a proposition about the model; OBLIGATIONS.json lists them with their
rules. `Config.freqTable` and its fellows are constants without a body, so every statement holds for every value of the
open parameters (log 9). -/

open Sys2Proof Sys2Proof.Machine Sys2Proof.Safety
open Host (Outcome)

/-! ### reset and the dispatch word -/

/-- R121: reset leaves SEQ = IDLE, every line and indicator Unknown, the trace and FAULT empty, and the entry point is the
acceptance of CMD_START. -/
def Obligations.ResetIsIdleAndUnknown : Prop :=
  State.reset.seq = .idle ∧
    (∀ p, State.reset.lines.get p = ⟨.unknown, .unknown⟩) ∧
    (∀ ch, State.reset.inds.get ch = .unknown) ∧
    State.reset.trace = [] ∧ State.reset.fault = none ∧
    ∀ x f rest, step { State.reset with env := ⟨true, x, false, f⟩ :: rest } =
      .next { State.reset with idx := x, seq := .resolve, env := rest }

/-- outputsFollowTrace, onSequence, faultRecorded, frameRegisters, dispatchRegisters and registersFit hold at reset. The values of
COMP, BITPOS and CUR_N at reset are the model's choice (log 8), and that MAX_BITCOUNT is at least 19 is its reading (log 10). -/
def Obligations.ResetMeetsTheInvariants : Prop :=
  outputsFollowTrace State.reset ∧ onSequence State.reset ∧ faultRecorded State.reset ∧ frameRegisters State.reset ∧
    dispatchRegisters State.reset ∧ registersFit Config.params State.reset

/-- R50: words written out from the patterns of the table, one or more of each command, decode to their rows. -/
def Obligations.WrittenWordsDecode : Prop :=
  decode 0b00000101#8 = .ok (.amateur0 0b000101#6) ∧ decode 0b01001111#8 = .ok (.amateur64 0b1111#4) ∧
    decode 0b01010000#8 = .ok (.txtune80 0b0000#4) ∧ decode 0b01110000#8 = .ok .txtune112 ∧
    decode 0b01110001#8 = .ok .rxtune113 ∧ decode 0b01111110#8 = .ok (.rxtune120 0b110#3) ∧
    decode 0b10100001#8 = .ok (.commercial128 0b100001#6) ∧ decode 0b11100010#8 = .ok .commercial226 ∧
    decode 0b11110010#8 = .ok (.testmode240 0b10#2) ∧ decode 0b11110101#8 = .ok (.testmode244 0b1#1) ∧
    decode 0b11100011#8 = .ok .unused227 ∧ decode 0b11111110#8 = .ok .unused254 ∧
    decode 0b11111111#8 = .ok .ledtest255

/-- R49: the ranges partition 0..255 with the sizes the rule gives. -/
def Obligations.RangesPartitionTheIndices : Prop :=
  let size := fun m => ((List.range 256).filter fun x => modeOf (BitVec.ofNat 8 x) == m).length
  size .amateur = 80 ∧ size .txTuning = 33 ∧ size .rxTuning = 15 ∧ size .commercial = 99 ∧ size .testMode = 6 ∧
    size .ledTest = 1 ∧ size .unused = 22 ∧
    size .amateur + size .txTuning + size .rxTuning + size .commercial + size .testMode + size .ledTest + size .unused = 256

/-- R50: exactly one row of the table matches each index. -/
def Obligations.ExactlyOneRowMatches : Prop :=
  ∀ x : Word, (rows.filter fun r => r.matches x).length = 1

/-- R50, R51, R60 against R48 and R62: every word decodes, to an instruction of the mode the priority table gives, and
encoding it gives the word back. -/
def Obligations.DecoderAgreesWithPriorityTable : Prop :=
  ∀ x : Word, ∃ i, decode x = .ok i ∧ i.mode = modeOf x ∧ encode i = x

/-- Decode and encode agree: every instruction, at every value of its operand, is what its word decodes to. -/
def Obligations.DecodeOfEncodeIsTheInstruction : Prop :=
  ∀ i : Instr, decode (encode i) = .ok i

/-- R59: a spelling whose mnemonic disagrees with its index is refused; every other one is an instruction with that very
spelling. -/
def Obligations.AssemblerRefusesExactlyIllFormedSpellings : Prop :=
  ∀ sp : Spelling, (sp.wellFormed = false → assemble sp = .error (.illFormedSpelling sp)) ∧
    (sp.wellFormed = true → ∃ i, assemble sp = .ok i ∧ i.spelling = sp)

/-! ### the step -/

/-- A step runs the decoded instruction: while a command runs and no ABORT arrives, a step is `exec` of the instruction IDX
decodes to, after which the ports move on. -/
def Obligations.StepRunsDecodedInstruction : Prop :=
  ∀ (s : State) (i : Instr), s.ports.abort = false → s.seq.running = true → decode s.idx = .ok i →
    step s = afterMove (exec i s)

/-- A word loaded with `withFetchWord` is what the very next step runs. -/
def Obligations.LoadedWordRunsNext : Prop :=
  ∀ (s : State) (w : Nat) (i : Instr), w < 256 → decode (BitVec.ofNat 8 w) = .ok i →
    step (s.withFetchWord 8 w) = afterMove (exec i (s.withFetchWord 8 w))

/-- R61: CMD_START in IDLE loads IDX and goes to RESOLVE; elsewhere CMD_START and CMD_INDEX change nothing, and IDLE is never
entered again. That IDLE without CMD_START steps to itself is the model's reading of R24's "waiting" (log 12). -/
def Obligations.DispatchAcceptedOnlyInIdle : Prop :=
  (∀ s : State, s.seq = .idle → s.ports.abort = false → s.ports.cmdStart = true →
      step s = .next { s with idx := s.ports.cmdIndex, seq := .resolve, env := s.env.tail }) ∧
    (∀ s : State, s.seq = .idle → s.ports.abort = false → s.ports.cmdStart = false →
      step s = .next { s with env := s.env.tail }) ∧
    (∀ (s : State) (p : Ports) (rest : List Ports) (c : Bool) (x : Word), s.seq ≠ .idle →
      step { s with env := { p with cmdStart := c, cmdIndex := x } :: rest } = step { s with env := p :: rest }) ∧
    ∀ s t : State, s.seq ≠ .idle → step s = .next t → t.seq ≠ .idle

/-- R24, R39, R132: a step appends at most one event to the trace and changes no earlier one. -/
def Obligations.StepEmitsAtMostOneEvent : Prop :=
  ∀ s t : State, step s = .next t → t.trace = s.trace ∨ ∃ e, t.trace = s.trace ++ [e]

/-- R26: no step, from any state, requests direction In. -/
def Obligations.InputDirectionIsNeverRequested : Prop :=
  ∀ (s t : State) (p : Line), step s = .next t → t.trace ≠ s.trace ++ [.direction p .input]

/-- What a meaning leaves unchanged, for every instruction and position (R22, R23): IDX and the ports always; MODE, SEL_TX,
SEL_RX and ENTRY but at RESOLVE; CUR_CH and CUR_N but at a PROG position; COMP but at SENDFIELD's step 2; BITPOS but at its
own write; FAULT unless a collaborator fails; the trace, the lines and the indicators but for one performed event. -/
def Obligations.ExecFrame : Prop :=
  ∀ (i : Instr) (s t : State), exec i s = .next t →
    t.idx = s.idx ∧ t.env = s.env ∧
      (s.seq ≠ .resolve → t.mode = s.mode ∧ t.selTx = s.selTx ∧ t.selRx = s.selRx ∧ t.entry = s.entry) ∧
      ((∀ ch part, s.seq ≠ .prog ch part) → t.curCh = s.curCh ∧ t.curN = s.curN) ∧
      ((∀ o ch f, s.seq ≠ .sf (.comp o) ch f) → t.comp = s.comp) ∧
      ((∀ b ch f, s.seq ≠ .sf (.setBit b) ch f) → t.bitpos = s.bitpos) ∧
      (s.ports.fails = false → t.fault = s.fault) ∧
      ((t.trace = s.trace ∧ t.lines = s.lines ∧ t.inds = s.inds) ∨
        ∃ e, t.trace = s.trace ++ [e] ∧ t.lines = (perform e s).lines ∧ t.inds = (perform e s).inds)

/-! ### the moves of the instructions -/

/-- R62..R65: at RESOLVE every instruction answers a next state: MODE is its command's, ENTRY its index's table entry, the
flags are those of R64's table, SEQ goes where R65 says, and nothing else changes. That all of it is one step is the model's
reading (log 1). -/
def Obligations.ResolveCompletesForEveryInstruction : Prop :=
  ∀ (i : Instr) (s : State), s.seq = .resolve →
    ∃ (tx rx : Bool) (q : Seq),
      exec i s =
        .next { s with mode := i.mode, selTx := tx, selRx := rx, entry := Config.freqTable (encode i), seq := q } ∧
      match i.mode with
      | .amateur => tx = true ∧ rx = true ∧ q = .prog .rx .ind
      | .txTuning => tx = true ∧ rx = false ∧ q = .prog .rx .ind
      | .rxTuning => tx = false ∧ rx = true ∧ q = .prog .rx .ind
      | .commercial => tx = true ∧ rx = true ∧ q = .prog .rx .ind
      | .testMode => tx = false ∧ rx = false ∧ q = .tm .indTx
      | .ledTest => tx = false ∧ rx = false ∧ q = .led (.ind false .tx)
      | .unused => tx = false ∧ rx = false ∧ q = .done

/-- R73, R75: a programming command's move at each PROG position: the indicator event IND_ACTIVE for a selected channel,
IND_IDLE for another (where no collaborator fails), and the call of each frame with its operands. That a call writes CUR_CH and
CUR_N in one step is the model's reading (log 1), as is that MAX_BITCOUNT admits the call of CNT19 (log 10) and that the position
carries `raw` and `cb` (log 18). -/
def Obligations.ProgramMoves : Prop :=
  ∀ (i : Instr) (s : State) (ch : Channel),
    (i.mode = .amateur ∨ i.mode = .txTuning ∨ i.mode = .rxTuning ∨ i.mode = .commercial) →
      (s.seq = .prog ch .ind → s.ports.fails = false → s.selected ch = true →
        exec i s = .next ((setIndicator ch Config.indActive s).goto (.prog ch .ref))) ∧
      (s.seq = .prog ch .ind → s.ports.fails = false → s.selected ch = false →
        exec i s = .next ((setIndicator ch Config.indIdle s).goto
          (match ch with | .rx => .prog .tx .ind | .tx => .done))) ∧
      (s.seq = .prog ch .ref →
        exec i s = .next { s with
          curCh := ch, curN := 16
          seq := .sf (.init 0 ⟨(entryOf s.entry ch).referenceDivider.toNat, true⟩) ch .ref16 }) ∧
      (s.seq = .prog ch .cnt →
        exec i s = .next { s with
          curCh := ch, curN := 19
          seq := .sf (.init 0 ⟨(entryOf s.entry ch).programmableCounter.toNat, false⟩) ch .cnt19 })

/-- R91, R92, R94, R95: a programming command's move at each position of SENDFIELD but those of the bit loop, for any operands
`raw` and `cb` of the call; an event position where no collaborator fails. That step 2 is a step of its own is the model's reading
(log 2), as are where the operands stand (log 18) and that COMP keeps every bit of a wide `raw` (log 20). -/
def Obligations.SendFieldStepMoves : Prop :=
  ∀ (i : Instr) (s : State) (o : SfOperands) (ch : Channel) (f : Frame),
    (i.mode = .amateur ∨ i.mode = .txTuning ∨ i.mode = .rxTuning ∨ i.mode = .commercial) →
      (∀ k : Fin 6, s.seq = .sf (.init k o) ch f → s.ports.fails = false → ∃ e,
        [Event.level (dataLine s.curCh) false, .level (clkLine s.curCh) false, .level (leLine s.curCh) false,
          .direction (dataLine s.curCh) .output, .direction (clkLine s.curCh) .output,
          .direction (leLine s.curCh) .output][k.val]? = some e ∧
        exec i s = .next ((perform e s).goto (.sf (if k = 5 then .comp o else .init (k + 1) o) ch f))) ∧
      (s.seq = .sf (.comp o) ch f →
        exec i s = .next { s with
          comp := (o.raw <<< 1) ||| (if o.cb then 1 else 0)
          seq := .sf (match s.curN with | 0 => .latch 0 | m + 1 => .setBit m) ch f }) ∧
      (∀ q : Fin 5, s.seq = .sf (.latch q) ch f → s.ports.fails = false → ∃ e,
        [Event.wait, .level (leLine s.curCh) true, .wait, .level (leLine s.curCh) false, .wait][q.val]? = some e ∧
        exec i s = .next ((perform e s).goto (.sf (if q = 4 then .low 0 else .latch (q + 1)) ch f))) ∧
      (∀ q : Fin 4, s.seq = .sf (.low q) ch f → s.ports.fails = false → ∃ e,
        [Event.level (dataLine s.curCh) false, .level (clkLine s.curCh) false, .level (leLine s.curCh) false,
          .wait][q.val]? = some e ∧
        exec i s = .next ((perform e s).goto (if q = 3 then sfReturn ch f else .sf (.low (q + 1)) ch f)))

/-- R93: a programming command's move at each position of the bit loop: BITPOS is written, then the five events of the bit
at BITPOS (where no collaborator fails), then the next lower bit position, or the latch pulse after position 0. That the write
of BITPOS is a step of its own is the model's reading (log 2). -/
def Obligations.BitLoopMoves : Prop :=
  ∀ (i : Instr) (s : State) (ch : Channel) (f : Frame),
    (i.mode = .amateur ∨ i.mode = .txTuning ∨ i.mode = .rxTuning ∨ i.mode = .commercial) →
      (∀ b, s.seq = .sf (.setBit b) ch f → exec i s = .next { s with bitpos := b, seq := .sf (.bit 0) ch f }) ∧
      (∀ q : Fin 5, s.seq = .sf (.bit q) ch f → s.ports.fails = false → ∃ e,
        [Event.level (dataLine s.curCh) (s.comp.testBit s.bitpos), .wait, .level (clkLine s.curCh) true, .wait,
          .level (clkLine s.curCh) false][q.val]? = some e ∧
        exec i s = .next ((perform e s).goto
          (.sf (if q = 4 then (match s.bitpos with | 0 => .latch 0 | m + 1 => .setBit m) else .bit (q + 1)) ch f)))

/-- R81, R83: TESTMODE's and LEDTEST's move at each position of their runs. -/
def Obligations.DiagnosticMoves : Prop :=
  ∀ (i : Instr) (s : State), s.ports.fails = false →
    (∀ pos, i.mode = .testMode → s.seq = .tm pos → ∃ e q, exec i s = .next ((perform e s).goto (.tm q)) ∧
      match pos with
      | .indTx => e = .indicator .tx (Config.tmTable (tmSub (encode i))).txMode ∧ q = .indRx
      | .indRx => e = .indicator .rx (Config.tmTable (tmSub (encode i))).rxMode ∧ q = .dir
      | .dir => e = .direction (Config.tmTable (tmSub (encode i))).line .output ∧ q = .level false
      | .level second =>
        e = .level (Config.tmTable (tmSub (encode i))).line (second ^^ Config.tmStartLevel) ∧ q = .hold second 0
      | .hold second j => e = .wait ∧
        q = if j + 1 < Config.params.tmHalfUnits then .hold second (j + 1) else .level (!second)) ∧
    (∀ pos, i.mode = .ledTest → s.seq = .led pos → ∃ e q, exec i s = .next ((perform e s).goto (.led q)) ∧
      match pos with
      | .ind second .tx => e = .indicator .tx (if second then .off else .on) ∧ q = .ind second .rx
      | .ind second .rx => q = .hold second 0 ∧
        e = .indicator .rx (if second = decide (Config.ledPhase = .inPhase) then .off else .on)
      | .hold second j => e = .wait ∧
        q = if j + 1 < Config.params.ledHalfUnits then .hold second (j + 1) else .ind (!second) .tx)

/-- R72: an index in 227..239 or 246..254 resolves to Unused, both flags 0 and SEQ = DONE, and nothing else happens. That
it is one step is the model's reading (log 1). -/
def Obligations.UnusedIsASilentNoOp : Prop :=
  ∀ s : State, s.seq = .resolve → s.ports.abort = false →
    (227 ≤ s.idx.toNat ∧ s.idx.toNat ≤ 239) ∨ (246 ≤ s.idx.toNat ∧ s.idx.toNat ≤ 254) →
      step s = .next { s with
        mode := .unused, selTx := false, selRx := false, entry := Config.freqTable s.idx, seq := .done
        env := s.env.tail }

/-! ### whole runs -/

/-- R66, R69: without ABORT or failure, AMATEUR and COMMERCIAL run to DONE: the trace gains RX's indicator event and frames,
then TX's, 412 events with 156 delay units; FAULT is as before, and all six lines end at 0 with direction Out (R120). The count
of steps is the model's (log 1, log 2), and so is that MAX_BITCOUNT admits the frames (log 10). -/
def Obligations.AmateurAndCommercialRunToDone : Prop :=
  ∀ s : State, s.seq = .resolve → calm s →
    s.idx.toNat ≤ 79 ∨ (128 ≤ s.idx.toNat ∧ s.idx.toNat ≤ 226) →
      ∃ t l, runsTo 491 s t ∧ t.seq = .done ∧ t.fault = s.fault ∧
        t.mode = (if s.idx.toNat ≤ 79 then .amateur else .commercial) ∧ t.selTx = true ∧ t.selRx = true ∧
        t.trace = s.trace ++ l ∧ l.length = 412 ∧ delayUnits l = 156 ∧
        l = Event.indicator .rx Config.indActive ::
              (frameEvents .rx (Config.freqTable s.idx).rx .ref16 ++ frameEvents .rx (Config.freqTable s.idx).rx .cnt19 ++
            Event.indicator .tx Config.indActive ::
              (frameEvents .tx (Config.freqTable s.idx).tx .ref16 ++ frameEvents .tx (Config.freqTable s.idx).tx .cnt19)) ∧
        ∀ p, t.lines.get p = ⟨.zero, .output⟩

/-- R67: TXTUNE runs to DONE: RX's indicator goes to IND_IDLE first, then TX's frames; RX's lines are as they were. The
count of steps is the model's (log 1, log 2), and so is that MAX_BITCOUNT admits the frames (log 10). -/
def Obligations.TxTuneRunsToDone : Prop :=
  ∀ s : State, s.seq = .resolve → calm s → 80 ≤ s.idx.toNat ∧ s.idx.toNat ≤ 112 →
    ∃ t l, runsTo 247 s t ∧ t.seq = .done ∧ t.fault = s.fault ∧ t.mode = .txTuning ∧ t.selTx = true ∧ t.selRx = false ∧
      t.trace = s.trace ++ l ∧ l.length = 207 ∧ delayUnits l = 78 ∧
      l = Event.indicator .rx Config.indIdle :: Event.indicator .tx Config.indActive ::
            (frameEvents .tx (Config.freqTable s.idx).tx .ref16 ++ frameEvents .tx (Config.freqTable s.idx).tx .cnt19) ∧
      ∀ p, t.lines.get p = if lineChannel p = .tx then ⟨.zero, .output⟩ else s.lines.get p

/-- R68: RXTUNE runs to DONE: RX's indicator and frames first, TX's indicator to IND_IDLE last; TX's lines are as they
were. The count of steps is the model's (log 1, log 2), and so is that MAX_BITCOUNT admits the frames (log 10). -/
def Obligations.RxTuneRunsToDone : Prop :=
  ∀ s : State, s.seq = .resolve → calm s → 113 ≤ s.idx.toNat ∧ s.idx.toNat ≤ 127 →
    ∃ t l, runsTo 247 s t ∧ t.seq = .done ∧ t.fault = s.fault ∧ t.mode = .rxTuning ∧ t.selTx = false ∧ t.selRx = true ∧
      t.trace = s.trace ++ l ∧ l.length = 207 ∧ delayUnits l = 78 ∧
      l = Event.indicator .rx Config.indActive ::
            (frameEvents .rx (Config.freqTable s.idx).rx .ref16 ++ frameEvents .rx (Config.freqTable s.idx).rx .cnt19) ++
          [Event.indicator .tx Config.indIdle] ∧
      ∀ p, t.lines.get p = if lineChannel p = .rx then ⟨.zero, .output⟩ else s.lines.get p

/-- R96: SENDFIELD's run emits exactly the numbered event list, for all operands and every bit count CUR_N holds, and returns.
The count of steps is the model's (log 2), and so is that COMP keeps every bit of a wide `raw` (log 20). -/
def Obligations.SendFieldEmitsTheNumberedList : Prop :=
  ∀ (s : State) (o : SfOperands) (ch : Channel) (f : Frame), s.seq = .sf (.init 0 o) ch f → onSequence s → calm s →
    ∃ t l, runsTo (6 * s.curN + 16) s t ∧ t.trace = s.trace ++ l ∧ l.length = 5 * s.curN + 15 ∧
      t.comp = (o.raw <<< 1) ||| (if o.cb then 1 else 0) ∧
      l.take 6 =
        [.level (dataLine s.curCh) false, .level (clkLine s.curCh) false, .level (leLine s.curCh) false,
          .direction (dataLine s.curCh) .output, .direction (clkLine s.curCh) .output,
          .direction (leLine s.curCh) .output] ∧
      (∀ j, j < s.curN → (l.drop (6 + 5 * j)).take 5 =
        [.level (dataLine s.curCh) (t.comp.testBit (s.curN - 1 - j)), .wait, .level (clkLine s.curCh) true, .wait,
          .level (clkLine s.curCh) false]) ∧
      l.drop (6 + 5 * s.curN) =
        [.wait, .level (leLine s.curCh) true, .wait, .level (leLine s.curCh) false, .wait,
          .level (dataLine s.curCh) false, .level (clkLine s.curCh) false, .level (leLine s.curCh) false, .wait] ∧
      t.seq = (match f, ch with
        | .ref16, _ => .prog ch .cnt
        | .cnt19, .rx => .prog .tx .ind
        | .cnt19, .tx => .done)

/-- R90, R96, R99: every SENDFIELD call inside the domain, whatever its channel, raw value, control bit and bit count, starts and
then emits exactly the event list of that call. The counts of steps are the model's (log 1, log 2), and so is that COMP keeps every
bit of a wide `raw` (log 20). -/
def Obligations.EverySendFieldCallEmitsItsList : Prop :=
  ∀ (c : SendFieldCall) (f : Frame) (s : State), c.n ≤ Config.params.maxBitCount → c.cb ≤ 1 → calm s →
    s.idx.toNat ≤ 226 →
      ∃ u t, act (callSendField Config.params c f) s = .next u ∧ runsTo (6 * c.n + 16) u t ∧
        t.trace = s.trace ++ sendFieldEvents c.ch c.raw (decide (c.cb = 1)) c.n ∧ t.comp = 2 * c.raw + c.cb

/-- R59, R73, R75: from PROG(ch, IND) with the channel selected, the machine emits what R59's pseudo-operation `PROGCH ch`
expands to: the indicator event IND_ACTIVE, `SENDFIELD ch, ENTRY.ch.ref, 1, 16` and `SENDFIELD ch, ENTRY.ch.cnt, 0, 19`. The
count of steps is the model's (log 1, log 2), and so is that MAX_BITCOUNT admits the frames (log 10). -/
def Obligations.ProgChRunsItsExpansion : Prop :=
  ∀ (s : State) (ch : Channel), s.seq = .prog ch .ind → s.selected ch = true → onSequence s → calm s →
    ∃ t, runsTo 245 s t ∧ t.trace = s.trace ++ operationEvents Config.params s.entry (.progCh ch) ∧
      operationEvents Config.params s.entry (.progCh ch) =
        Event.indicator ch Config.indActive ::
          (callEvents ⟨ch, (entryOf s.entry ch).referenceDivider.toNat, 1, 16⟩ ++
            callEvents ⟨ch, (entryOf s.entry ch).programmableCounter.toNat, 0, 19⟩) ∧
      t.seq = (match ch with | .rx => .prog .tx .ind | .tx => .done)

/-- R100: after SENDFIELD its channel's three lines hold 0 with direction Out; the other channel's lines and both indicators
are unchanged. The count of steps is the model's (log 2). -/
def Obligations.SendFieldLeavesItsLinesLow : Prop :=
  ∀ (s : State) (o : SfOperands) (ch : Channel) (f : Frame), s.seq = .sf (.init 0 o) ch f → onSequence s → calm s →
    ∃ t, runsTo (6 * s.curN + 16) s t ∧
      (∀ p, t.lines.get p = if lineChannel p = s.curCh then ⟨.zero, .output⟩ else s.lines.get p) ∧ t.inds = s.inds

/-- R31: from the data event of bit position 0 to the end of the latch pulse, the data line holds bit 0 of COMP. -/
def Obligations.DataLineHoldsLastBitThroughLatch : Prop :=
  ∀ (s : State) (ch : Channel) (f : Frame), s.seq = .sf (.bit 0) ch f → s.bitpos = 0 → onSequence s → calm s →
    ∀ j, 1 ≤ j → j ≤ 10 →
      ∃ t, runsTo j s t ∧ (t.lines.get (dataLine s.curCh)).lvl = levelOfBit (s.comp.testBit 0)

/-- R81: TESTMODE runs for any number of turns of its loop: the two indicator events, the direction event, then the square
wave of the row `IDX - 240`. That RESOLVE is one step of the count is the model's reading (log 1). -/
def Obligations.TestModeDrivesASquareWave : Prop :=
  ∀ (m : Nat) (k : Fin 6) (s : State), s.seq = .resolve → calm s → s.idx = BitVec.ofNat 8 (240 + k) →
    ∃ t, runsTo (4 + m * (2 * Config.params.tmHalfUnits + 2)) s t ∧ t.seq = .tm (.level false) ∧
      t.selTx = false ∧ t.selRx = false ∧ t.mode = .testMode ∧ t.fault = s.fault ∧
      t.trace = s.trace ++
        [.indicator .tx (Config.tmTable k).txMode, .indicator .rx (Config.tmTable k).rxMode,
          .direction (Config.tmTable k).line .output] ++
        turns m
          (.level (Config.tmTable k).line Config.tmStartLevel :: List.replicate Config.params.tmHalfUnits .wait ++
            .level (Config.tmTable k).line (!Config.tmStartLevel) :: List.replicate Config.params.tmHalfUnits .wait)

/-- R83: LEDTEST runs for any number of turns of its loop, in the phase LED_PHASE says. That RESOLVE is one step of the count is
the model's reading (log 1). -/
def Obligations.LedTestAlternatesTheIndicators : Prop :=
  ∀ (m : Nat) (s : State), s.seq = .resolve → calm s → s.idx = 0xFF#8 →
    ∃ t, runsTo (1 + m * (2 * Config.params.ledHalfUnits + 4)) s t ∧ t.seq = .led (.ind false .tx) ∧
      t.selTx = false ∧ t.selRx = false ∧ t.mode = .ledTest ∧ t.fault = s.fault ∧ t.lines = s.lines ∧
      t.trace = s.trace ++ turns m (match Config.ledPhase with
        | .inPhase =>
          [.indicator .tx .on, .indicator .rx .on] ++ List.replicate Config.params.ledHalfUnits .wait ++
            [.indicator .tx .off, .indicator .rx .off] ++ List.replicate Config.params.ledHalfUnits .wait
        | .antiPhase =>
          [.indicator .tx .on, .indicator .rx .off] ++ List.replicate Config.params.ledHalfUnits .wait ++
            [.indicator .tx .off, .indicator .rx .on] ++ List.replicate Config.params.ledHalfUnits .wait)

/-- R82, R84: whatever arrives, no run of TESTMODE or LEDTEST reaches DONE, and every run can go on. -/
def Obligations.DiagnosticRunsNeverReachDone : Prop :=
  ∀ (k : Nat) (s : State), s.seq = .resolve → (240 ≤ s.idx.toNat ∧ s.idx.toNat ≤ 245) ∨ s.idx.toNat = 255 →
    ∃ t, runsTo k s t ∧ t.seq ≠ .done

/-- R82, R84: whatever arrives, TESTMODE leaves every line but its row's alone, and LEDTEST leaves every line alone. -/
def Obligations.DiagnosticRunsTouchNoOtherLine : Prop :=
  ∀ (k : Nat) (s t : State) (p : Line), s.seq = .resolve → runsTo k s t →
    (240 ≤ s.idx.toNat ∧ s.idx.toNat ≤ 245 ∧ p ≠ (Config.tmTable (tmSub s.idx)).line) ∨ s.idx.toNat = 255 →
      t.lines.get p = s.lines.get p

/-! ### order of the channels -/

/-- R74: in PROGRAM's RX step no event of TX is emitted; in its TX step none of RX is, and the TX step is never left for the
RX step. So every event of the RX step precedes every event of the TX step. -/
def Obligations.RxStepPrecedesTxStep : Prop :=
  ∀ (s t : State) (ch : Channel), inChannelStep ch s.seq = true → frameRegisters s → step s = .next t →
    (∀ e, t.trace = s.trace ++ [e] → eventChannel e = some ch ∨ e = .wait) ∧
      (inChannelStep .rx t.seq = true → ch = .rx) ∧ (t.seq = .done → ch = .tx)

/-! ### frames -/

/-- R53: bit 0 of the composite is the control bit, and bit k + 1 is bit k of the raw value. -/
def Obligations.CompositeBits : Prop :=
  ∀ (raw : Nat) (cb : Bool), composite raw cb = 2 * raw + cb.toNat ∧ (composite raw cb).testBit 0 = cb ∧
    ∀ k, (composite raw cb).testBit (k + 1) = raw.testBit k

/-- R54: a frame is the low n bits of the composite, most significant first: the low n - 1 bits of the raw value, then the
control bit; for n = 0 it is empty. -/
def Obligations.FrameSendsTheLowBits : Prop :=
  ∀ (raw : Nat) (cb : Bool),
    (∀ n, (frameBits raw cb n).length = n ∧
      ∀ j, j < n → (frameBits raw cb n)[j]? = some ((composite raw cb).testBit (n - 1 - j))) ∧
    frameBits raw cb 0 = [] ∧
    ∀ n, frameBits raw cb (n + 1) = (List.range n).map (fun j => raw.testBit (n - 1 - j)) ++ [cb]

/-- R55, R56: REF16 sends ref[14] down to ref[0] and then 1; CNT19 sends cnt[17] down to cnt[0] and then 0. -/
def Obligations.FieldFramesDropTheirTopBit : Prop :=
  ∀ rv : RegisterValue,
    frameBits (frameRaw rv .ref16) (frameCb .ref16) (frameN .ref16) =
      (List.range 15).map (fun j => rv.referenceDivider.getLsbD (14 - j)) ++ [true] ∧
    frameBits (frameRaw rv .cnt19) (frameCb .cnt19) (frameN .cnt19) =
      (List.range 18).map (fun j => rv.programmableCounter.getLsbD (17 - j)) ++ [false]

/-- R98: truncation and its corner cases. -/
def Obligations.TruncationCornerCases : Prop :=
  ∀ (ch : Channel) (cb : Bool),
    (∀ raw n, 1 ≤ n → sendFieldEvents ch raw cb n = sendFieldEvents ch (raw % 2 ^ (n - 1)) cb n) ∧
    (∀ n, frameBits 0 cb (n + 1) = List.replicate n false ++ [cb]) ∧
    (∀ n, frameBits (2 ^ n - 1) cb (n + 1) = List.replicate n true ++ [cb]) ∧
    (∀ n, frameBits (2 ^ n) cb (n + 1) = frameBits 0 cb (n + 1)) ∧
    (∀ raw, frameBits raw cb 1 = [cb]) ∧
    (∀ raw, sendFieldEvents ch raw cb 0 = initEvents ch ++ latchEvents ch ++ lowEvents ch ∧
      (sendFieldEvents ch raw cb 0).length = 15) ∧
    ∀ raw n, 1 ≤ n → (frameBits raw cb n).getLast? = some cb

/-- R97: SENDFIELD's list has 5n + 15 events, 2n + 4 of them delay units, n rising edges on its clock line and one on its
latch-enable line, whatever level the lines had before. -/
def Obligations.SendFieldCounts : Prop :=
  ∀ (ch : Channel) (raw : Nat) (cb : Bool) (n : Nat) (v w : LineLevel),
    (sendFieldEvents ch raw cb n).length = 5 * n + 15 ∧ delayUnits (sendFieldEvents ch raw cb n) = 2 * n + 4 ∧
      risingEdges (clkLine ch) v (sendFieldEvents ch raw cb n) = n ∧
      risingEdges (leLine ch) w (sendFieldEvents ch raw cb n) = 1 ∧
      (∀ rv, (frameEvents ch rv .ref16).length = 95 ∧ delayUnits (frameEvents ch rv .ref16) = 36) ∧
      ∀ rv, (frameEvents ch rv .cnt19).length = 110 ∧ delayUnits (frameEvents ch rv .cnt19) = 42

/-- R78: the event counts of a sendField of any length, a frame, a channel and PROGRAM. -/
def Obligations.ProgramCounts : Prop :=
  ∀ (P : Params) (e : TableEntry) (ch : Channel) (rv : RegisterValue),
    (∀ raw cb n, (sendFieldEvents ch raw cb n).length = 5 * n + 15 ∧
      delayUnits (sendFieldEvents ch raw cb n) = 2 * n + 4) ∧
    ((frameEvents ch rv .ref16).length = 95 ∧ delayUnits (frameEvents ch rv .ref16) = 36) ∧
    ((frameEvents ch rv .cnt19).length = 110 ∧ delayUnits (frameEvents ch rv .cnt19) = 42) ∧
    ((channelEvents P ch rv true).length = 206 ∧ delayUnits (channelEvents P ch rv true) = 78) ∧
    ((channelEvents P ch rv false).length = 1 ∧ delayUnits (channelEvents P ch rv false) = 0) ∧
    ((programEvents P e true true).length = 412 ∧ delayUnits (programEvents P e true true) = 156) ∧
    ((programEvents P e true false).length = 207 ∧ delayUnits (programEvents P e true false) = 78) ∧
    ((programEvents P e false true).length = 207 ∧ delayUnits (programEvents P e false true) = 78)

/-- R90, D20: SENDFIELD refuses a bit count above MAX_BITCOUNT or a control bit above 1, starts with the call's operands on every
other call, and the block's own calls are never refused (log 10). That a call writes CUR_CH and CUR_N in one move is the model's
reading (log 1), as is where `raw` and `cb` stand (log 18). -/
def Obligations.SendFieldRefusesOutsideItsDomain : Prop :=
  (∀ (P : Params) (c : SendFieldCall) (f : Frame) (s : State), (P.maxBitCount < c.n ∨ 1 < c.cb) →
      act (callSendField P c f) s = .refused (.bitCountOutOfRange c.n)) ∧
    (∀ (P : Params) (c : SendFieldCall) (f : Frame) (s : State), c.n ≤ P.maxBitCount → c.cb ≤ 1 →
      act (callSendField P c f) s = .next { s with
        curCh := c.ch, curN := c.n, seq := .sf (.init 0 ⟨c.raw, decide (c.cb = 1)⟩) c.ch f }) ∧
    ∀ (P : Params) (e : TableEntry) (ch : Channel) (f : Frame),
      (frameCall e ch f).n ≤ P.maxBitCount ∧ (frameCall e ch f).cb ≤ 1

/-! ### primitives -/

/-- R86..R89: each primitive appends its event and writes its one field; everything else is unchanged. -/
def Obligations.PrimitiveEffects : Prop :=
  (∀ (p : Line) (v : Bool) (s : State), ∃ l, setLevel p v s = { s with trace := s.trace ++ [.level p v], lines := l } ∧
      ∀ q, l.get q = if q = p then ⟨if v then .one else .zero, (s.lines.get p).dir⟩ else s.lines.get q) ∧
    (∀ (p : Line) (d : Direction) (s : State), ∃ l,
      setDirection p d s = { s with trace := s.trace ++ [.direction p d], lines := l } ∧
      ∀ q, l.get q = if q = p then
        ⟨(s.lines.get p).lvl, match d with | .input => .input | .output => .output⟩ else s.lines.get q) ∧
    (∀ s : State, delayUnit s = { s with trace := s.trace ++ [.wait] }) ∧
    ∀ (ch : Channel) (m : IndMode) (s : State), ∃ x,
      setIndicator ch m s = { s with trace := s.trace ++ [.indicator ch m], inds := x } ∧
      ∀ c, x.get c = if c = ch then (match m with | .off => .off | .blink => .blink | .on => .on) else s.inds.get c

/-! ### faults, ABORT, the end of a run -/

/-- R104: where the running command emits an event and the collaborator fails, the step records the event and its position,
stops in FAULTED and emits nothing. That the failed event is not in the trace, and how its position counts, is the model's
reading (log 7). -/
def Obligations.CollaboratorFailureStopsInFaulted : Prop :=
  ∀ (s : State) (i : Instr) (e : Event) (q : Seq), s.ports.abort = false → s.ports.fails = true →
    s.seq.running = true → decode s.idx = .ok i → commandAction Config.params i.mode (encode i) s = .emit e q →
      step s = .next { s with
        seq := .faulted, fault := some (.collaboratorFailed e (s.trace.length + 1)), env := s.env.tail }

/-- R106: ABORT moves SEQ to ABORTED in every state that is not final, nothing else changes, and no event follows, whatever
arrives. -/
def Obligations.AbortStopsTheBlock : Prop :=
  (∀ s : State, s.ports.abort = true → s.seq ≠ .done → s.seq ≠ .faulted →
      step s = .next { s with seq := .aborted, env := s.env.tail }) ∧
    ∀ (k : Nat) (s : State), s.seq = .aborted →
      ∃ t, runsTo k s t ∧ t = { s with env := t.env }

/-- R107 and log 6: ABORT has no effect after a fault; at DONE the model takes it as any other state does (the model's
reading of R106). -/
def Obligations.AbortAtFinalStates : Prop :=
  (∀ s : State, s.ports.abort = true → s.seq = .faulted → step s = .next { s with env := s.env.tail }) ∧
    ∀ s : State, s.ports.abort = true → s.seq = .done → step s = .next { s with seq := .aborted, env := s.env.tail }

/-- R29, R104: once FAULT is set it is never cleared and SEQ stays FAULTED; FAULT is set exactly in FAULTED, and every step
keeps that. -/
def Obligations.FaultIsNeverCleared : Prop :=
  (∀ s t : State, faultRecorded s → step s = .next t → faultRecorded t) ∧
    ∀ (k : Nat) (s : State), s.seq = .faulted →
      ∃ t, runsTo k s t ∧ t.seq = .faulted ∧ t.fault = s.fault ∧ t.trace = s.trace

/-- R116, R125: after DONE, until an ABORT, every step leaves the state as it is. -/
def Obligations.DoneIsIdle : Prop :=
  ∀ s : State, s.seq = .done → s.ports.abort = false → step s = .next { s with env := s.env.tail }

/-! ### invariants -/

/-- R28: the lines and indicators are a function of the trace, and every step, from every state, keeps that. -/
def Obligations.OutputsFollowTheTraceInvariant : Prop :=
  ∀ s t : State, outputsFollowTrace s → step s = .next t → outputsFollowTrace t

/-- R82, R84, R104, R106: from RESOLVE on, an invocation of TESTMODE or LEDTEST stays at RESOLVE, inside that command's own run,
in ABORTED or in FAULTED, and every step keeps that. -/
def Obligations.DiagnosticCommandIsNeverLeft : Prop :=
  ∀ s t : State, inDiagnostic s → step s = .next t → inDiagnostic t ∧ t.idx = s.idx

/-- The machine never stops: from every state whose SEQ stands at a position of the command IDX holds, the step answers a
next state, whose SEQ stands so again. It rests on the model's readings of log 10 (no call is refused) and log 12 (states without a
move step to themselves). -/
def Obligations.StepNeverStopsOnSequence : Prop :=
  ∀ s : State, onSequence s → ∃ t, step s = .next t ∧ onSequence t

/-- R22, R23, R75, R92, R93: the frame's registers and operands are what SENDFIELD's position says, and every step keeps that.
The positions are the model's (log 2, log 18). -/
def Obligations.FrameRegistersInvariant : Prop :=
  ∀ s t : State, frameRegisters s → step s = .next t → frameRegisters t

/-- R23, R62, R63, R64: from RESOLVE on, MODE, SEL_TX, SEL_RX and ENTRY are those of IDX, and every step keeps that. That the four
are written in one step is the model's reading (log 1). -/
def Obligations.DispatchRegistersInvariant : Prop :=
  ∀ s t : State, dispatchRegisters s → step s = .next t → dispatchRegisters t

/-- R22: every step keeps CUR_N, BITPOS and COMP within their widths. -/
def Obligations.RegistersKeepTheirWidths : Prop :=
  ∀ s t : State, registersFit Config.params s → step s = .next t → registersFit Config.params t

/-- R30, U7: the unspecified reset values are unobservable: two idle states that differ in the internal registers alone have
runs with the same SEQ, trace, lines, indicators and FAULT, whatever arrives. -/
def Obligations.ResetRegistersAreUnobservable : Prop :=
  ∀ (k : Nat) (s s' : State), s.seq = .idle → s'.seq = .idle → s'.lines = s.lines → s'.inds = s.inds →
    s'.trace = s.trace → s'.fault = s.fault → s'.env = s.env →
      ∃ t t', runsTo k s t ∧ runsTo k s' t' ∧
        t'.seq = t.seq ∧ t'.trace = t.trace ∧ t'.lines = t.lines ∧ t'.inds = t.inds ∧ t'.fault = t.fault

/-! ### the host -/

/-- R117: an argument in 1..256 dispatches the index one below it: CMD_START is raised at exactly one boundary of the invocation,
and where no ABORT stands up to it, IDX is loaded there and SEQ goes to RESOLVE. The host is a function beside the machine (log 17). -/
def Obligations.HostDispatchesTheIndexBelowItsArgument : Prop :=
  ∀ n : Int, 1 ≤ n → n ≤ 256 → hostAction [n] = .dispatch (BitVec.ofNat 8 (n - 1).toNat) ∧
    ∀ (wait : Nat) (outside : List Ports),
      ((invocation (hostAction [n]) wait outside).env.filter fun p => p.cmdStart).length = 1 ∧
        ((∀ p ∈ outside.take (wait + 1), p.abort = false) →
          runsTo (wait + 1) (invocation (hostAction [n]) wait outside)
            { State.reset with
              idx := BitVec.ofNat 8 (n - 1).toNat, seq := .resolve
              env := (outside.drop (wait + 1)).map fun p => { p with cmdStart := false } })

/-- R106, R120: the host may raise ABORT at any time: at whatever boundary of an invocation ABORT stands, the run is over after it,
in ABORTED or, where a collaborator failed before, in FAULTED; up to and at the boundary of CMD_START it is ABORTED with an empty
trace. That ABORT comes before the move of its boundary is the model's reading (log 6); the host is a function beside the machine
(log 17). -/
def Obligations.HostMayAbortAtAnyBoundary : Prop :=
  ∀ (a : HostAction) (wait : Nat) (outside : List Ports) (j : Nat) (p : Ports), outside[j]? = some p → p.abort = true →
    ∃ t, runsTo (j + 1) (invocation a wait outside) t ∧ (t.seq = .aborted ∨ t.seq = .faulted) ∧
      (j ≤ wait → t.seq = .aborted ∧ t.trace = [])

/-- R118, R119: an argument out of range exits with status 1 and a wrong argument count with status 0; neither raises
CMD_START at any boundary, and the block emits no event, whatever else the outside does. That the status is the same after an ABORT
is the model's choice, and the host is a function beside the machine (log 17). -/
def Obligations.RefusedInvocationsEmitNothing : Prop :=
  (∀ (n : Int) (s : State), n < 1 ∨ 256 < n → hostAction [n] = .rangeError ∧ exitStatus (hostAction [n]) s = some 1) ∧
    (∀ (args : List Int) (s : State), args.length ≠ 1 →
      hostAction args = .usage ∧ exitStatus (hostAction args) s = some 0) ∧
    ∀ (k : Nat) (a : HostAction) (wait : Nat) (outside : List Ports), a = .rangeError ∨ a = .usage →
      (∀ p ∈ (invocation a wait outside).env, p.cmdStart = false) ∧
        ∃ t, runsTo k (invocation a wait outside) t ∧ t.trace = []

/-- R120, R125: an invocation for an index outside TESTMODE's and LEDTEST's, in which no ABORT arrives and no collaborator
fails, ends well and exits with status 0; its trace is the one PROGRAM's rules give (none for UNUSED), and each channel it
programmed has its lines at 0 with direction Out. That MAX_BITCOUNT admits the frames is the model's reading (log 10), and the
host is a function beside the machine (log 17). -/
def Obligations.HostedInvocationEndsWell : Prop :=
  ∀ (n wait : Nat) (outside : List Ports), 1 ≤ n → n ≤ 240 ∨ (247 ≤ n ∧ n ≤ 255) →
    (∀ p ∈ outside, p.abort = false ∧ p.fails = false) →
      ∃ k t, runsTo k (invocation (hostAction [(n : Int)]) wait outside) t ∧ endsWell t ∧
        exitStatus (hostAction [(n : Int)]) t = some 0 ∧ t.mode = modeOf (BitVec.ofNat 8 (n - 1)) ∧
        t.selTx = selTxOf (modeOf (BitVec.ofNat 8 (n - 1))) ∧ t.selRx = selRxOf (modeOf (BitVec.ofNat 8 (n - 1))) ∧
        t.trace = (if t.mode = .unused then []
          else programEvents Config.params (Config.freqTable (BitVec.ofNat 8 (n - 1))) t.selTx t.selRx) ∧
        ∀ p, t.selected (lineChannel p) = true → t.lines.get p = ⟨.zero, .output⟩

/-- R79: the TestMode sub-index of an index in 240..245 is the index less 240. -/
def Obligations.TestModeSubIndex : Prop :=
  ∀ x : Word, 240 ≤ x.toNat → x.toNat ≤ 245 → (tmSub x).val = x.toNat - 240 ∧
    ∀ P, tmRead P (tmSub x) = P.tmTable (Fin.ofNat 6 (x.toNat - 240))
end

