-- ==== Sys2Proof/Laws/State.lean ====
section
/-! SUPPORT. One lemma per field per update of State: what the field holds after the update. -/

namespace Sys2Proof.Machine

/-! ### goto -/

@[simp] theorem goto_seq (q : Seq) (s : State) : (s.goto q).seq = q := rfl
@[simp] theorem goto_idx (q : Seq) (s : State) : (s.goto q).idx = s.idx := rfl
@[simp] theorem goto_mode (q : Seq) (s : State) : (s.goto q).mode = s.mode := rfl
@[simp] theorem goto_selRx (q : Seq) (s : State) : (s.goto q).selRx = s.selRx := rfl
@[simp] theorem goto_selTx (q : Seq) (s : State) : (s.goto q).selTx = s.selTx := rfl
@[simp] theorem goto_entry (q : Seq) (s : State) : (s.goto q).entry = s.entry := rfl
@[simp] theorem goto_comp (q : Seq) (s : State) : (s.goto q).comp = s.comp := rfl
@[simp] theorem goto_bitpos (q : Seq) (s : State) : (s.goto q).bitpos = s.bitpos := rfl
@[simp] theorem goto_curCh (q : Seq) (s : State) : (s.goto q).curCh = s.curCh := rfl
@[simp] theorem goto_curN (q : Seq) (s : State) : (s.goto q).curN = s.curN := rfl
@[simp] theorem goto_lines (q : Seq) (s : State) : (s.goto q).lines = s.lines := rfl
@[simp] theorem goto_inds (q : Seq) (s : State) : (s.goto q).inds = s.inds := rfl
@[simp] theorem goto_trace (q : Seq) (s : State) : (s.goto q).trace = s.trace := rfl
@[simp] theorem goto_fault (q : Seq) (s : State) : (s.goto q).fault = s.fault := rfl
@[simp] theorem goto_env (q : Seq) (s : State) : (s.goto q).env = s.env := rfl

/-! ### record -/

@[simp] theorem record_seq (e : Event) (s : State) : (s.record e).seq = s.seq := rfl
@[simp] theorem record_idx (e : Event) (s : State) : (s.record e).idx = s.idx := rfl
@[simp] theorem record_mode (e : Event) (s : State) : (s.record e).mode = s.mode := rfl
@[simp] theorem record_selRx (e : Event) (s : State) : (s.record e).selRx = s.selRx := rfl
@[simp] theorem record_selTx (e : Event) (s : State) : (s.record e).selTx = s.selTx := rfl
@[simp] theorem record_entry (e : Event) (s : State) : (s.record e).entry = s.entry := rfl
@[simp] theorem record_comp (e : Event) (s : State) : (s.record e).comp = s.comp := rfl
@[simp] theorem record_bitpos (e : Event) (s : State) : (s.record e).bitpos = s.bitpos := rfl
@[simp] theorem record_curCh (e : Event) (s : State) : (s.record e).curCh = s.curCh := rfl
@[simp] theorem record_curN (e : Event) (s : State) : (s.record e).curN = s.curN := rfl
@[simp] theorem record_lines (e : Event) (s : State) : (s.record e).lines = s.lines := rfl
@[simp] theorem record_inds (e : Event) (s : State) : (s.record e).inds = s.inds := rfl
@[simp] theorem record_trace (e : Event) (s : State) : (s.record e).trace = s.trace ++ [e] := rfl
@[simp] theorem record_fault (e : Event) (s : State) : (s.record e).fault = s.fault := rfl
@[simp] theorem record_env (e : Event) (s : State) : (s.record e).env = s.env := rfl

/-! ### setLevel (R86) -/

@[simp] theorem setLevel_seq (p : Line) (v : Bool) (s : State) : (setLevel p v s).seq = s.seq := rfl
@[simp] theorem setLevel_idx (p : Line) (v : Bool) (s : State) : (setLevel p v s).idx = s.idx := rfl
@[simp] theorem setLevel_mode (p : Line) (v : Bool) (s : State) : (setLevel p v s).mode = s.mode := rfl
@[simp] theorem setLevel_selRx (p : Line) (v : Bool) (s : State) : (setLevel p v s).selRx = s.selRx := rfl
@[simp] theorem setLevel_selTx (p : Line) (v : Bool) (s : State) : (setLevel p v s).selTx = s.selTx := rfl
@[simp] theorem setLevel_entry (p : Line) (v : Bool) (s : State) : (setLevel p v s).entry = s.entry := rfl
@[simp] theorem setLevel_comp (p : Line) (v : Bool) (s : State) : (setLevel p v s).comp = s.comp := rfl
@[simp] theorem setLevel_bitpos (p : Line) (v : Bool) (s : State) : (setLevel p v s).bitpos = s.bitpos := rfl
@[simp] theorem setLevel_curCh (p : Line) (v : Bool) (s : State) : (setLevel p v s).curCh = s.curCh := rfl
@[simp] theorem setLevel_curN (p : Line) (v : Bool) (s : State) : (setLevel p v s).curN = s.curN := rfl
@[simp] theorem setLevel_lines (p : Line) (v : Bool) (s : State) : (setLevel p v s).lines = s.lines.set p ⟨levelOfBit v, (s.lines.get p).dir⟩ := rfl
@[simp] theorem setLevel_inds (p : Line) (v : Bool) (s : State) : (setLevel p v s).inds = s.inds := rfl
@[simp] theorem setLevel_trace (p : Line) (v : Bool) (s : State) : (setLevel p v s).trace = s.trace ++ [.level p v] := rfl
@[simp] theorem setLevel_fault (p : Line) (v : Bool) (s : State) : (setLevel p v s).fault = s.fault := rfl
@[simp] theorem setLevel_env (p : Line) (v : Bool) (s : State) : (setLevel p v s).env = s.env := rfl

/-! ### setDirection (R87) -/

@[simp] theorem setDirection_seq (p : Line) (d : Direction) (s : State) : (setDirection p d s).seq = s.seq := rfl
@[simp] theorem setDirection_idx (p : Line) (d : Direction) (s : State) : (setDirection p d s).idx = s.idx := rfl
@[simp] theorem setDirection_mode (p : Line) (d : Direction) (s : State) : (setDirection p d s).mode = s.mode := rfl
@[simp] theorem setDirection_selRx (p : Line) (d : Direction) (s : State) : (setDirection p d s).selRx = s.selRx := rfl
@[simp] theorem setDirection_selTx (p : Line) (d : Direction) (s : State) : (setDirection p d s).selTx = s.selTx := rfl
@[simp] theorem setDirection_entry (p : Line) (d : Direction) (s : State) : (setDirection p d s).entry = s.entry := rfl
@[simp] theorem setDirection_comp (p : Line) (d : Direction) (s : State) : (setDirection p d s).comp = s.comp := rfl
@[simp] theorem setDirection_bitpos (p : Line) (d : Direction) (s : State) : (setDirection p d s).bitpos = s.bitpos := rfl
@[simp] theorem setDirection_curCh (p : Line) (d : Direction) (s : State) : (setDirection p d s).curCh = s.curCh := rfl
@[simp] theorem setDirection_curN (p : Line) (d : Direction) (s : State) : (setDirection p d s).curN = s.curN := rfl
@[simp] theorem setDirection_lines (p : Line) (d : Direction) (s : State) : (setDirection p d s).lines = s.lines.set p ⟨(s.lines.get p).lvl, dirOf d⟩ := rfl
@[simp] theorem setDirection_inds (p : Line) (d : Direction) (s : State) : (setDirection p d s).inds = s.inds := rfl
@[simp] theorem setDirection_trace (p : Line) (d : Direction) (s : State) : (setDirection p d s).trace = s.trace ++ [.direction p d] := rfl
@[simp] theorem setDirection_fault (p : Line) (d : Direction) (s : State) : (setDirection p d s).fault = s.fault := rfl
@[simp] theorem setDirection_env (p : Line) (d : Direction) (s : State) : (setDirection p d s).env = s.env := rfl

/-! ### delayUnit (R88) -/

@[simp] theorem delayUnit_seq (s : State) : (delayUnit s).seq = s.seq := rfl
@[simp] theorem delayUnit_idx (s : State) : (delayUnit s).idx = s.idx := rfl
@[simp] theorem delayUnit_mode (s : State) : (delayUnit s).mode = s.mode := rfl
@[simp] theorem delayUnit_selRx (s : State) : (delayUnit s).selRx = s.selRx := rfl
@[simp] theorem delayUnit_selTx (s : State) : (delayUnit s).selTx = s.selTx := rfl
@[simp] theorem delayUnit_entry (s : State) : (delayUnit s).entry = s.entry := rfl
@[simp] theorem delayUnit_comp (s : State) : (delayUnit s).comp = s.comp := rfl
@[simp] theorem delayUnit_bitpos (s : State) : (delayUnit s).bitpos = s.bitpos := rfl
@[simp] theorem delayUnit_curCh (s : State) : (delayUnit s).curCh = s.curCh := rfl
@[simp] theorem delayUnit_curN (s : State) : (delayUnit s).curN = s.curN := rfl
@[simp] theorem delayUnit_lines (s : State) : (delayUnit s).lines = s.lines := rfl
@[simp] theorem delayUnit_inds (s : State) : (delayUnit s).inds = s.inds := rfl
@[simp] theorem delayUnit_trace (s : State) : (delayUnit s).trace = s.trace ++ [.wait] := rfl
@[simp] theorem delayUnit_fault (s : State) : (delayUnit s).fault = s.fault := rfl
@[simp] theorem delayUnit_env (s : State) : (delayUnit s).env = s.env := rfl

/-! ### setIndicator (R89) -/

@[simp] theorem setIndicator_seq (ch : Channel) (m : IndMode) (s : State) : (setIndicator ch m s).seq = s.seq := rfl
@[simp] theorem setIndicator_idx (ch : Channel) (m : IndMode) (s : State) : (setIndicator ch m s).idx = s.idx := rfl
@[simp] theorem setIndicator_mode (ch : Channel) (m : IndMode) (s : State) : (setIndicator ch m s).mode = s.mode := rfl
@[simp] theorem setIndicator_selRx (ch : Channel) (m : IndMode) (s : State) : (setIndicator ch m s).selRx = s.selRx := rfl
@[simp] theorem setIndicator_selTx (ch : Channel) (m : IndMode) (s : State) : (setIndicator ch m s).selTx = s.selTx := rfl
@[simp] theorem setIndicator_entry (ch : Channel) (m : IndMode) (s : State) : (setIndicator ch m s).entry = s.entry := rfl
@[simp] theorem setIndicator_comp (ch : Channel) (m : IndMode) (s : State) : (setIndicator ch m s).comp = s.comp := rfl
@[simp] theorem setIndicator_bitpos (ch : Channel) (m : IndMode) (s : State) : (setIndicator ch m s).bitpos = s.bitpos := rfl
@[simp] theorem setIndicator_curCh (ch : Channel) (m : IndMode) (s : State) : (setIndicator ch m s).curCh = s.curCh := rfl
@[simp] theorem setIndicator_curN (ch : Channel) (m : IndMode) (s : State) : (setIndicator ch m s).curN = s.curN := rfl
@[simp] theorem setIndicator_lines (ch : Channel) (m : IndMode) (s : State) : (setIndicator ch m s).lines = s.lines := rfl
@[simp] theorem setIndicator_inds (ch : Channel) (m : IndMode) (s : State) : (setIndicator ch m s).inds = s.inds.set ch (indOf m) := rfl
@[simp] theorem setIndicator_trace (ch : Channel) (m : IndMode) (s : State) : (setIndicator ch m s).trace = s.trace ++ [.indicator ch m] := rfl
@[simp] theorem setIndicator_fault (ch : Channel) (m : IndMode) (s : State) : (setIndicator ch m s).fault = s.fault := rfl
@[simp] theorem setIndicator_env (ch : Channel) (m : IndMode) (s : State) : (setIndicator ch m s).env = s.env := rfl

/-! ### perform -/

@[simp] theorem perform_seq (e : Event) (s : State) : (perform e s).seq = s.seq := by cases e <;> rfl
@[simp] theorem perform_idx (e : Event) (s : State) : (perform e s).idx = s.idx := by cases e <;> rfl
@[simp] theorem perform_mode (e : Event) (s : State) : (perform e s).mode = s.mode := by cases e <;> rfl
@[simp] theorem perform_selRx (e : Event) (s : State) : (perform e s).selRx = s.selRx := by cases e <;> rfl
@[simp] theorem perform_selTx (e : Event) (s : State) : (perform e s).selTx = s.selTx := by cases e <;> rfl
@[simp] theorem perform_entry (e : Event) (s : State) : (perform e s).entry = s.entry := by cases e <;> rfl
@[simp] theorem perform_comp (e : Event) (s : State) : (perform e s).comp = s.comp := by cases e <;> rfl
@[simp] theorem perform_bitpos (e : Event) (s : State) : (perform e s).bitpos = s.bitpos := by cases e <;> rfl
@[simp] theorem perform_curCh (e : Event) (s : State) : (perform e s).curCh = s.curCh := by cases e <;> rfl
@[simp] theorem perform_curN (e : Event) (s : State) : (perform e s).curN = s.curN := by cases e <;> rfl
@[simp] theorem perform_trace (e : Event) (s : State) : (perform e s).trace = s.trace ++ [e] := by cases e <;> rfl
@[simp] theorem perform_fault (e : Event) (s : State) : (perform e s).fault = s.fault := by cases e <;> rfl
@[simp] theorem perform_env (e : Event) (s : State) : (perform e s).env = s.env := by cases e <;> rfl

/-! ### takeFault (R104) -/

@[simp] theorem takeFault_seq (e : Event) (s : State) : (takeFault e s).seq = .faulted := rfl
@[simp] theorem takeFault_idx (e : Event) (s : State) : (takeFault e s).idx = s.idx := rfl
@[simp] theorem takeFault_mode (e : Event) (s : State) : (takeFault e s).mode = s.mode := rfl
@[simp] theorem takeFault_selRx (e : Event) (s : State) : (takeFault e s).selRx = s.selRx := rfl
@[simp] theorem takeFault_selTx (e : Event) (s : State) : (takeFault e s).selTx = s.selTx := rfl
@[simp] theorem takeFault_entry (e : Event) (s : State) : (takeFault e s).entry = s.entry := rfl
@[simp] theorem takeFault_comp (e : Event) (s : State) : (takeFault e s).comp = s.comp := rfl
@[simp] theorem takeFault_bitpos (e : Event) (s : State) : (takeFault e s).bitpos = s.bitpos := rfl
@[simp] theorem takeFault_curCh (e : Event) (s : State) : (takeFault e s).curCh = s.curCh := rfl
@[simp] theorem takeFault_curN (e : Event) (s : State) : (takeFault e s).curN = s.curN := rfl
@[simp] theorem takeFault_lines (e : Event) (s : State) : (takeFault e s).lines = s.lines := rfl
@[simp] theorem takeFault_inds (e : Event) (s : State) : (takeFault e s).inds = s.inds := rfl
@[simp] theorem takeFault_trace (e : Event) (s : State) : (takeFault e s).trace = s.trace := rfl
@[simp] theorem takeFault_fault (e : Event) (s : State) : (takeFault e s).fault = some (.collaboratorFailed e (s.trace.length + 1)) := rfl
@[simp] theorem takeFault_env (e : Event) (s : State) : (takeFault e s).env = s.env := rfl

/-! ### takeAbort (R106) -/

@[simp] theorem takeAbort_seq (s : State) : (takeAbort s).seq = .aborted := rfl
@[simp] theorem takeAbort_idx (s : State) : (takeAbort s).idx = s.idx := rfl
@[simp] theorem takeAbort_mode (s : State) : (takeAbort s).mode = s.mode := rfl
@[simp] theorem takeAbort_selRx (s : State) : (takeAbort s).selRx = s.selRx := rfl
@[simp] theorem takeAbort_selTx (s : State) : (takeAbort s).selTx = s.selTx := rfl
@[simp] theorem takeAbort_entry (s : State) : (takeAbort s).entry = s.entry := rfl
@[simp] theorem takeAbort_comp (s : State) : (takeAbort s).comp = s.comp := rfl
@[simp] theorem takeAbort_bitpos (s : State) : (takeAbort s).bitpos = s.bitpos := rfl
@[simp] theorem takeAbort_curCh (s : State) : (takeAbort s).curCh = s.curCh := rfl
@[simp] theorem takeAbort_curN (s : State) : (takeAbort s).curN = s.curN := rfl
@[simp] theorem takeAbort_lines (s : State) : (takeAbort s).lines = s.lines := rfl
@[simp] theorem takeAbort_inds (s : State) : (takeAbort s).inds = s.inds := rfl
@[simp] theorem takeAbort_trace (s : State) : (takeAbort s).trace = s.trace := rfl
@[simp] theorem takeAbort_fault (s : State) : (takeAbort s).fault = s.fault := rfl
@[simp] theorem takeAbort_env (s : State) : (takeAbort s).env = s.env := rfl

/-! ### accept (R61) -/

@[simp] theorem accept_seq (s : State) : (accept s).seq = .resolve := rfl
@[simp] theorem accept_idx (s : State) : (accept s).idx = s.ports.cmdIndex := rfl
@[simp] theorem accept_mode (s : State) : (accept s).mode = s.mode := rfl
@[simp] theorem accept_selRx (s : State) : (accept s).selRx = s.selRx := rfl
@[simp] theorem accept_selTx (s : State) : (accept s).selTx = s.selTx := rfl
@[simp] theorem accept_entry (s : State) : (accept s).entry = s.entry := rfl
@[simp] theorem accept_comp (s : State) : (accept s).comp = s.comp := rfl
@[simp] theorem accept_bitpos (s : State) : (accept s).bitpos = s.bitpos := rfl
@[simp] theorem accept_curCh (s : State) : (accept s).curCh = s.curCh := rfl
@[simp] theorem accept_curN (s : State) : (accept s).curN = s.curN := rfl
@[simp] theorem accept_lines (s : State) : (accept s).lines = s.lines := rfl
@[simp] theorem accept_inds (s : State) : (accept s).inds = s.inds := rfl
@[simp] theorem accept_trace (s : State) : (accept s).trace = s.trace := rfl
@[simp] theorem accept_fault (s : State) : (accept s).fault = s.fault := rfl
@[simp] theorem accept_env (s : State) : (accept s).env = s.env := rfl

/-! ### nextPorts -/

@[simp] theorem nextPorts_seq (s : State) : (s.nextPorts).seq = s.seq := rfl
@[simp] theorem nextPorts_idx (s : State) : (s.nextPorts).idx = s.idx := rfl
@[simp] theorem nextPorts_mode (s : State) : (s.nextPorts).mode = s.mode := rfl
@[simp] theorem nextPorts_selRx (s : State) : (s.nextPorts).selRx = s.selRx := rfl
@[simp] theorem nextPorts_selTx (s : State) : (s.nextPorts).selTx = s.selTx := rfl
@[simp] theorem nextPorts_entry (s : State) : (s.nextPorts).entry = s.entry := rfl
@[simp] theorem nextPorts_comp (s : State) : (s.nextPorts).comp = s.comp := rfl
@[simp] theorem nextPorts_bitpos (s : State) : (s.nextPorts).bitpos = s.bitpos := rfl
@[simp] theorem nextPorts_curCh (s : State) : (s.nextPorts).curCh = s.curCh := rfl
@[simp] theorem nextPorts_curN (s : State) : (s.nextPorts).curN = s.curN := rfl
@[simp] theorem nextPorts_lines (s : State) : (s.nextPorts).lines = s.lines := rfl
@[simp] theorem nextPorts_inds (s : State) : (s.nextPorts).inds = s.inds := rfl
@[simp] theorem nextPorts_trace (s : State) : (s.nextPorts).trace = s.trace := rfl
@[simp] theorem nextPorts_fault (s : State) : (s.nextPorts).fault = s.fault := rfl
@[simp] theorem nextPorts_env (s : State) : (s.nextPorts).env = s.env.tail := rfl

/-! ### the resolver's write (R62..R64) -/

@[simp] theorem writeResolve_seq (m : OperatingMode) (a b : Bool) (e : TableEntry) (s : State) : (writeRegs (.resolve m a b e) s).seq = s.seq := rfl
@[simp] theorem writeResolve_idx (m : OperatingMode) (a b : Bool) (e : TableEntry) (s : State) : (writeRegs (.resolve m a b e) s).idx = s.idx := rfl
@[simp] theorem writeResolve_mode (m : OperatingMode) (a b : Bool) (e : TableEntry) (s : State) : (writeRegs (.resolve m a b e) s).mode = m := rfl
@[simp] theorem writeResolve_selRx (m : OperatingMode) (a b : Bool) (e : TableEntry) (s : State) : (writeRegs (.resolve m a b e) s).selRx = b := rfl
@[simp] theorem writeResolve_selTx (m : OperatingMode) (a b : Bool) (e : TableEntry) (s : State) : (writeRegs (.resolve m a b e) s).selTx = a := rfl
@[simp] theorem writeResolve_entry (m : OperatingMode) (a b : Bool) (e : TableEntry) (s : State) : (writeRegs (.resolve m a b e) s).entry = e := rfl
@[simp] theorem writeResolve_comp (m : OperatingMode) (a b : Bool) (e : TableEntry) (s : State) : (writeRegs (.resolve m a b e) s).comp = s.comp := rfl
@[simp] theorem writeResolve_bitpos (m : OperatingMode) (a b : Bool) (e : TableEntry) (s : State) : (writeRegs (.resolve m a b e) s).bitpos = s.bitpos := rfl
@[simp] theorem writeResolve_curCh (m : OperatingMode) (a b : Bool) (e : TableEntry) (s : State) : (writeRegs (.resolve m a b e) s).curCh = s.curCh := rfl
@[simp] theorem writeResolve_curN (m : OperatingMode) (a b : Bool) (e : TableEntry) (s : State) : (writeRegs (.resolve m a b e) s).curN = s.curN := rfl
@[simp] theorem writeResolve_lines (m : OperatingMode) (a b : Bool) (e : TableEntry) (s : State) : (writeRegs (.resolve m a b e) s).lines = s.lines := rfl
@[simp] theorem writeResolve_inds (m : OperatingMode) (a b : Bool) (e : TableEntry) (s : State) : (writeRegs (.resolve m a b e) s).inds = s.inds := rfl
@[simp] theorem writeResolve_trace (m : OperatingMode) (a b : Bool) (e : TableEntry) (s : State) : (writeRegs (.resolve m a b e) s).trace = s.trace := rfl
@[simp] theorem writeResolve_fault (m : OperatingMode) (a b : Bool) (e : TableEntry) (s : State) : (writeRegs (.resolve m a b e) s).fault = s.fault := rfl
@[simp] theorem writeResolve_env (m : OperatingMode) (a b : Bool) (e : TableEntry) (s : State) : (writeRegs (.resolve m a b e) s).env = s.env := rfl

/-! ### the programmer's write (R75) -/

@[simp] theorem writeFrame_seq (ch : Channel) (n : Nat) (s : State) : (writeRegs (.frame ch n) s).seq = s.seq := rfl
@[simp] theorem writeFrame_idx (ch : Channel) (n : Nat) (s : State) : (writeRegs (.frame ch n) s).idx = s.idx := rfl
@[simp] theorem writeFrame_mode (ch : Channel) (n : Nat) (s : State) : (writeRegs (.frame ch n) s).mode = s.mode := rfl
@[simp] theorem writeFrame_selRx (ch : Channel) (n : Nat) (s : State) : (writeRegs (.frame ch n) s).selRx = s.selRx := rfl
@[simp] theorem writeFrame_selTx (ch : Channel) (n : Nat) (s : State) : (writeRegs (.frame ch n) s).selTx = s.selTx := rfl
@[simp] theorem writeFrame_entry (ch : Channel) (n : Nat) (s : State) : (writeRegs (.frame ch n) s).entry = s.entry := rfl
@[simp] theorem writeFrame_comp (ch : Channel) (n : Nat) (s : State) : (writeRegs (.frame ch n) s).comp = s.comp := rfl
@[simp] theorem writeFrame_bitpos (ch : Channel) (n : Nat) (s : State) : (writeRegs (.frame ch n) s).bitpos = s.bitpos := rfl
@[simp] theorem writeFrame_curCh (ch : Channel) (n : Nat) (s : State) : (writeRegs (.frame ch n) s).curCh = ch := rfl
@[simp] theorem writeFrame_curN (ch : Channel) (n : Nat) (s : State) : (writeRegs (.frame ch n) s).curN = n := rfl
@[simp] theorem writeFrame_lines (ch : Channel) (n : Nat) (s : State) : (writeRegs (.frame ch n) s).lines = s.lines := rfl
@[simp] theorem writeFrame_inds (ch : Channel) (n : Nat) (s : State) : (writeRegs (.frame ch n) s).inds = s.inds := rfl
@[simp] theorem writeFrame_trace (ch : Channel) (n : Nat) (s : State) : (writeRegs (.frame ch n) s).trace = s.trace := rfl
@[simp] theorem writeFrame_fault (ch : Channel) (n : Nat) (s : State) : (writeRegs (.frame ch n) s).fault = s.fault := rfl
@[simp] theorem writeFrame_env (ch : Channel) (n : Nat) (s : State) : (writeRegs (.frame ch n) s).env = s.env := rfl

/-! ### the write of COMP (R92) -/

@[simp] theorem writeComp_seq (c : Nat) (s : State) : (writeRegs (.comp c) s).seq = s.seq := rfl
@[simp] theorem writeComp_idx (c : Nat) (s : State) : (writeRegs (.comp c) s).idx = s.idx := rfl
@[simp] theorem writeComp_mode (c : Nat) (s : State) : (writeRegs (.comp c) s).mode = s.mode := rfl
@[simp] theorem writeComp_selRx (c : Nat) (s : State) : (writeRegs (.comp c) s).selRx = s.selRx := rfl
@[simp] theorem writeComp_selTx (c : Nat) (s : State) : (writeRegs (.comp c) s).selTx = s.selTx := rfl
@[simp] theorem writeComp_entry (c : Nat) (s : State) : (writeRegs (.comp c) s).entry = s.entry := rfl
@[simp] theorem writeComp_comp (c : Nat) (s : State) : (writeRegs (.comp c) s).comp = c := rfl
@[simp] theorem writeComp_bitpos (c : Nat) (s : State) : (writeRegs (.comp c) s).bitpos = s.bitpos := rfl
@[simp] theorem writeComp_curCh (c : Nat) (s : State) : (writeRegs (.comp c) s).curCh = s.curCh := rfl
@[simp] theorem writeComp_curN (c : Nat) (s : State) : (writeRegs (.comp c) s).curN = s.curN := rfl
@[simp] theorem writeComp_lines (c : Nat) (s : State) : (writeRegs (.comp c) s).lines = s.lines := rfl
@[simp] theorem writeComp_inds (c : Nat) (s : State) : (writeRegs (.comp c) s).inds = s.inds := rfl
@[simp] theorem writeComp_trace (c : Nat) (s : State) : (writeRegs (.comp c) s).trace = s.trace := rfl
@[simp] theorem writeComp_fault (c : Nat) (s : State) : (writeRegs (.comp c) s).fault = s.fault := rfl
@[simp] theorem writeComp_env (c : Nat) (s : State) : (writeRegs (.comp c) s).env = s.env := rfl

/-! ### the write of BITPOS (R93) -/

@[simp] theorem writeBitpos_seq (i : Nat) (s : State) : (writeRegs (.bitpos i) s).seq = s.seq := rfl
@[simp] theorem writeBitpos_idx (i : Nat) (s : State) : (writeRegs (.bitpos i) s).idx = s.idx := rfl
@[simp] theorem writeBitpos_mode (i : Nat) (s : State) : (writeRegs (.bitpos i) s).mode = s.mode := rfl
@[simp] theorem writeBitpos_selRx (i : Nat) (s : State) : (writeRegs (.bitpos i) s).selRx = s.selRx := rfl
@[simp] theorem writeBitpos_selTx (i : Nat) (s : State) : (writeRegs (.bitpos i) s).selTx = s.selTx := rfl
@[simp] theorem writeBitpos_entry (i : Nat) (s : State) : (writeRegs (.bitpos i) s).entry = s.entry := rfl
@[simp] theorem writeBitpos_comp (i : Nat) (s : State) : (writeRegs (.bitpos i) s).comp = s.comp := rfl
@[simp] theorem writeBitpos_bitpos (i : Nat) (s : State) : (writeRegs (.bitpos i) s).bitpos = i := rfl
@[simp] theorem writeBitpos_curCh (i : Nat) (s : State) : (writeRegs (.bitpos i) s).curCh = s.curCh := rfl
@[simp] theorem writeBitpos_curN (i : Nat) (s : State) : (writeRegs (.bitpos i) s).curN = s.curN := rfl
@[simp] theorem writeBitpos_lines (i : Nat) (s : State) : (writeRegs (.bitpos i) s).lines = s.lines := rfl
@[simp] theorem writeBitpos_inds (i : Nat) (s : State) : (writeRegs (.bitpos i) s).inds = s.inds := rfl
@[simp] theorem writeBitpos_trace (i : Nat) (s : State) : (writeRegs (.bitpos i) s).trace = s.trace := rfl
@[simp] theorem writeBitpos_fault (i : Nat) (s : State) : (writeRegs (.bitpos i) s).fault = s.fault := rfl
@[simp] theorem writeBitpos_env (i : Nat) (s : State) : (writeRegs (.bitpos i) s).env = s.env := rfl

/-! ### what every register write leaves alone -/

theorem writeRegs_seq (w : RegWrite) (s : State) : (writeRegs w s).seq = s.seq := by cases w <;> rfl
theorem writeRegs_idx (w : RegWrite) (s : State) : (writeRegs w s).idx = s.idx := by cases w <;> rfl
theorem writeRegs_lines (w : RegWrite) (s : State) : (writeRegs w s).lines = s.lines := by cases w <;> rfl
theorem writeRegs_inds (w : RegWrite) (s : State) : (writeRegs w s).inds = s.inds := by cases w <;> rfl
theorem writeRegs_trace (w : RegWrite) (s : State) : (writeRegs w s).trace = s.trace := by cases w <;> rfl
theorem writeRegs_fault (w : RegWrite) (s : State) : (writeRegs w s).fault = s.fault := by cases w <;> rfl
theorem writeRegs_env (w : RegWrite) (s : State) : (writeRegs w s).env = s.env := by cases w <;> rfl

end Sys2Proof.Machine
end

