-- ==== Sys2Proof/Laws/Ops.lean ====
section
/-! SUPPORT. For each shared operation, once, all it can do. -/

namespace Sys2Proof.Machine

open Host (Outcome)

/-! ### lines and indicators -/

@[simp] theorem lines_get_set (l : Lines) (p q : Line) (v : LineState) :
    (l.set p v).get q = if p = q then v else l.get q := by
  cases p <;> cases q <;> rfl

@[simp] theorem inds_get_set (x : Inds) (c d : Channel) (v : IndState) :
    (x.set c v).get d = if c = d then v else x.get d := by
  cases c <;> cases d <;> rfl

/-- What performing an event makes of a line's level (R26). -/
theorem perform_level (e : Event) (s : State) (p : Line) :
    ((perform e s).lines.get p).lvl = levelStep p (s.lines.get p).lvl e := by
  cases e with
  | level q v => by_cases h : q = p <;> simp [perform, levelStep, h]
  | direction q d => by_cases h : q = p <;> simp [perform, levelStep, h]
  | wait => rfl
  | indicator c m => rfl

/-- What performing an event makes of a line's direction (R26). -/
theorem perform_dir (e : Event) (s : State) (p : Line) :
    ((perform e s).lines.get p).dir = dirStep p (s.lines.get p).dir e := by
  cases e with
  | level q v => by_cases h : q = p <;> simp [perform, dirStep, h]
  | direction q d => by_cases h : q = p <;> simp [perform, dirStep, h]
  | wait => rfl
  | indicator c m => rfl

/-- What performing an event makes of an indicator (R27). -/
theorem perform_ind (e : Event) (s : State) (ch : Channel) :
    (perform e s).inds.get ch = indStep ch (s.inds.get ch) e := by
  cases e with
  | level q v => rfl
  | direction q d => rfl
  | wait => rfl
  | indicator c m => by_cases h : c = ch <;> simp [perform, indStep, h]

/-- A line an event is not for keeps its state. -/
theorem perform_line_unchanged (e : Event) (s : State) (p : Line)
    (hl : ∀ v, e ≠ .level p v) (hd : ∀ d, e ≠ .direction p d) : (perform e s).lines.get p = s.lines.get p := by
  cases e with
  | level q v =>
    have h : q ≠ p := fun h => hl v (by rw [h])
    simp [perform, h]
  | direction q d =>
    have h : q ≠ p := fun h => hd d (by rw [h])
    simp [perform, h]
  | wait => rfl
  | indicator c m => rfl

/-! ### the trace as a function -/

@[simp] theorem levelAfter_append (t : List Event) (e : Event) (p : Line) :
    levelAfter (t ++ [e]) p = levelStep p (levelAfter t p) e := by simp [levelAfter]

@[simp] theorem dirAfter_append (t : List Event) (e : Event) (p : Line) :
    dirAfter (t ++ [e]) p = dirStep p (dirAfter t p) e := by simp [dirAfter]

@[simp] theorem indAfter_append (t : List Event) (e : Event) (ch : Channel) :
    indAfter (t ++ [e]) ch = indStep ch (indAfter t ch) e := by simp [indAfter]

/-! ### emission and actions -/

/-- All an emission can do: fault where the collaborator fails, else perform the event and move on. -/
theorem emit_cases (e : Event) (q : Seq) (s : State) :
    (s.ports.fails = true ∧ emit e q s = takeFault e s) ∨
      (s.ports.fails = false ∧ emit e q s = (perform e s).goto q) := by
  cases h : s.ports.fails
  · exact .inr ⟨rfl, by simp [emit, h]⟩
  · exact .inl ⟨rfl, by simp [emit, h]⟩

/-- An emission whose collaborator does not fail. -/
theorem emit_performs (e : Event) (q : Seq) (s : State) (h : s.ports.fails = false) :
    emit e q s = (perform e s).goto q := by simp [emit, h]

/-- All an action that answers a next state can have been. -/
theorem act_cases {a : Action} {s t : State} (h : act a s = .next t) :
    (∃ e q, a = .emit e q ∧ t = emit e q s) ∨
      (∃ w q, a = .write w q ∧ t = (writeRegs w s).goto q) ∨ (a = .stay ∧ t = s) := by
  cases a with
  | emit e q => exact .inl ⟨e, q, rfl, by simpa [act] using h.symm⟩
  | write w q => exact .inr (.inl ⟨w, q, rfl, by simpa [act] using h.symm⟩)
  | stay => exact .inr (.inr ⟨rfl, by simpa [act] using h.symm⟩)
  | off => simp [act] at h
  | refuse r => simp [act] at h

/-! ### the ports -/

/-- A move that gives a next state has the ports moved on, and nothing else is added to it. -/
theorem afterMove_next {o : Outcome State Fault Refusal} {t : State} :
    afterMove o = .next t ↔ ∃ s, o = .next s ∧ t = s.nextPorts := by
  cases o <;> simp [afterMove, eq_comm]

@[simp] theorem ports_of_nil {s : State} (h : s.env = []) : s.ports = Ports.quiet := by simp [State.ports, h]

@[simp] theorem ports_of_cons {s : State} {p : Ports} {r : List Ports} (h : s.env = p :: r) : s.ports = p := by
  simp [State.ports, h]

end Sys2Proof.Machine
end

