-- ==== Sys2Proof/Laws/Moves.lean ====
section
/-! SUPPORT. What exec and step can do: exec performs the action its command has at the position SEQ holds; a step is an
ABORT, the move of the decoded instruction, or the move of an idle or final state. -/

namespace Sys2Proof.Machine

/-! ### what a command does, by the position SEQ holds -/

/-- At RESOLVE every command performs the resolver's write (R62..R65). -/
theorem commandAction_resolve {P : Params} {m : OperatingMode} {x : Word} {s : State} (h : s.seq = .resolve) :
    commandAction P m x s = .write (resolveWrite P m x) (match m with
      | .amateur => .prog .rx .ind
      | .txTuning => .prog .rx .ind
      | .rxTuning => .prog .rx .ind
      | .commercial => .prog .rx .ind
      | .testMode => .tm .indTx
      | .ledTest => .led (.ind false .tx)
      | .unused => .done) := by
  cases m <;> simp [commandAction, programmingAction, testModeAction, ledTestAction, unusedAction, h]

/-- At a PROG position the programming commands perform PROGRAM's move; no other command has the position. -/
theorem commandAction_prog {P : Params} {m : OperatingMode} {x : Word} {s : State} {ch : Channel} {part : Part}
    (h : s.seq = .prog ch part) :
    commandAction P m x s =
      if m = .amateur ∨ m = .txTuning ∨ m = .rxTuning ∨ m = .commercial then progAction P s ch part else .off := by
  cases m <;> simp [commandAction, programmingAction, testModeAction, ledTestAction, unusedAction, h]

/-- At a position of SENDFIELD the programming commands perform SENDFIELD's move; no other command has the position. -/
theorem commandAction_sf {P : Params} {m : OperatingMode} {x : Word} {s : State} {pos : SfPos} {ch : Channel} {f : Frame}
    (h : s.seq = .sf pos ch f) :
    commandAction P m x s =
      if m = .amateur ∨ m = .txTuning ∨ m = .rxTuning ∨ m = .commercial then sfAction s pos ch f else .off := by
  cases m <;> simp [commandAction, programmingAction, testModeAction, ledTestAction, unusedAction, h]

/-- At a position of TESTMODE_RUN only TESTMODE has a move. -/
theorem commandAction_tm {P : Params} {m : OperatingMode} {x : Word} {s : State} {pos : TmPos} (h : s.seq = .tm pos) :
    commandAction P m x s = if m = .testMode then tmAction P (tmRead P (tmSub x)) pos else .off := by
  cases m <;> simp [commandAction, programmingAction, testModeAction, ledTestAction, unusedAction, h]

/-- At a position of LEDTEST_RUN only LEDTEST has a move. -/
theorem commandAction_led {P : Params} {m : OperatingMode} {x : Word} {s : State} {pos : LedPos} (h : s.seq = .led pos) :
    commandAction P m x s = if m = .ledTest then ledAction P pos else .off := by
  cases m <;> simp [commandAction, programmingAction, testModeAction, ledTestAction, unusedAction, h]

/-- Where no command runs, no command has a move. -/
theorem commandAction_stay {P : Params} {m : OperatingMode} {x : Word} {s : State} (h : s.seq.running = false) :
    commandAction P m x s = .stay := by
  cases hq : s.seq <;> simp [hq, Seq.running] at h <;>
    cases m <;> simp [commandAction, programmingAction, testModeAction, ledTestAction, unusedAction, hq]

/-- The block's own calls of SENDFIELD lie in its domain (U10), so each writes CUR_CH and CUR_N and begins it (R75). -/
theorem callSendField_frame (P : Params) (e : TableEntry) (ch : Channel) (f : Frame) :
    callSendField P (frameCall e ch f) f =
      .write (.frame ch (frameN f)) (.sf (.init 0 (frameOperands e ch f)) ch f) := by
  have h : (frameCall e ch f).wellFormed P.maxBitCount = true := by
    cases f <;> simp [SendFieldCall.wellFormed, frameCall, frameN, frameCb, Params.maxBitCount]
  have ho : callOperands (frameCall e ch f) = frameOperands e ch f := by cases f <;> rfl
  rw [callSendField, if_pos h, ho]
  rfl

/-! ### exec and step -/

/-- Every meaning is the action of its command, with the instruction's word as the index. -/
theorem exec_eq_act (i : Instr) (s : State) :
    exec i s = act (commandAction Config.params i.mode (encode i) s) s := by
  cases i <;> rfl

/-- All a meaning can do when it answers a next state. -/
theorem exec_cases {i : Instr} {s t : State} (h : exec i s = .next t) :
    (∃ e q, commandAction Config.params i.mode (encode i) s = .emit e q ∧ t = emit e q s) ∨
      (∃ w q, commandAction Config.params i.mode (encode i) s = .write w q ∧ t = (writeRegs w s).goto q) ∨
      (commandAction Config.params i.mode (encode i) s = .stay ∧ t = s) :=
  act_cases (exec_eq_act i s ▸ h)

/-- All a step can do when it answers a next state. -/
theorem step_cases {s t : State} (h : step s = .next t) :
    (s.abortNow = true ∧ t = (takeAbort s).nextPorts) ∨
      (s.abortNow = false ∧ s.seq.running = true ∧
        ∃ i u, decode s.idx = .ok i ∧ exec i s = .next u ∧ t = u.nextPorts) ∨
      (s.abortNow = false ∧ s.seq.running = false ∧ t = (idleMove s).nextPorts) := by
  cases ha : s.abortNow
  · cases hr : s.seq.running
    · simp only [step, ha, hr, Bool.false_eq_true, if_false] at h
      obtain ⟨u, hu, rfl⟩ := afterMove_next.1 h
      cases hu
      exact .inr (.inr ⟨rfl, rfl, rfl⟩)
    · simp only [step, ha, hr, Bool.false_eq_true, if_false, if_true] at h
      obtain ⟨u, hu, rfl⟩ := afterMove_next.1 h
      unfold runningMove at hu
      split at hu
      · exact .inr (.inl ⟨rfl, rfl, _, u, ‹_›, hu, rfl⟩)
      · cases hu
  · simp only [step, ha, if_true] at h
    obtain ⟨u, hu, rfl⟩ := afterMove_next.1 h
    cases hu
    exact .inl ⟨rfl, rfl⟩

/-- `k + 1` steps are one step and then `k`. -/
theorem run_succ {k : Nat} {s t : State} (h : step s = .next t) :
    Host.Core.run core (k + 1) s = Host.Core.run core k t := by
  have h' : core.step s = .next t := h
  simp only [Host.Core.run, h']

end Sys2Proof.Machine
end

