-- ==== Sys2Proof/Laws/PerInstr.lean ====
section
/-! SUPPORT. The per-instruction family: every instruction, spelled with its command's mnemonic, is a well-formed spelling
(30_encoding.md R48, R59), and its word matches its row (R50). -/

namespace Sys2Proof.Laws

/-- The instruction's mnemonic agrees with its index. -/
def Spelled.Statement (i : Instr) : Prop := i.spelling.wellFormed = true

theorem Spelled.amateur0 (i : BitVec 6) : Spelled.Statement (.amateur0 i) := by
  unfold Spelled.Statement; revert i; decide

theorem Spelled.amateur64 (i : BitVec 4) : Spelled.Statement (.amateur64 i) := by
  unfold Spelled.Statement; revert i; decide

theorem Spelled.txtune80 (i : BitVec 4) : Spelled.Statement (.txtune80 i) := by
  unfold Spelled.Statement; revert i; decide

theorem Spelled.txtune96 (i : BitVec 4) : Spelled.Statement (.txtune96 i) := by
  unfold Spelled.Statement; revert i; decide

theorem Spelled.txtune112 : Spelled.Statement .txtune112 := by
  unfold Spelled.Statement; decide

theorem Spelled.rxtune113 : Spelled.Statement .rxtune113 := by
  unfold Spelled.Statement; decide

theorem Spelled.rxtune114 (i : BitVec 1) : Spelled.Statement (.rxtune114 i) := by
  unfold Spelled.Statement; revert i; decide

theorem Spelled.rxtune116 (i : BitVec 2) : Spelled.Statement (.rxtune116 i) := by
  unfold Spelled.Statement; revert i; decide

theorem Spelled.rxtune120 (i : BitVec 3) : Spelled.Statement (.rxtune120 i) := by
  unfold Spelled.Statement; revert i; decide

theorem Spelled.commercial128 (i : BitVec 6) : Spelled.Statement (.commercial128 i) := by
  unfold Spelled.Statement; revert i; decide

theorem Spelled.commercial192 (i : BitVec 5) : Spelled.Statement (.commercial192 i) := by
  unfold Spelled.Statement; revert i; decide

theorem Spelled.commercial224 (i : BitVec 1) : Spelled.Statement (.commercial224 i) := by
  unfold Spelled.Statement; revert i; decide

theorem Spelled.commercial226 : Spelled.Statement .commercial226 := by
  unfold Spelled.Statement; decide

theorem Spelled.unused227 : Spelled.Statement .unused227 := by
  unfold Spelled.Statement; decide

theorem Spelled.unused228 (i : BitVec 2) : Spelled.Statement (.unused228 i) := by
  unfold Spelled.Statement; revert i; decide

theorem Spelled.unused232 (i : BitVec 3) : Spelled.Statement (.unused232 i) := by
  unfold Spelled.Statement; revert i; decide

theorem Spelled.testmode240 (i : BitVec 2) : Spelled.Statement (.testmode240 i) := by
  unfold Spelled.Statement; revert i; decide

theorem Spelled.testmode244 (i : BitVec 1) : Spelled.Statement (.testmode244 i) := by
  unfold Spelled.Statement; revert i; decide

theorem Spelled.unused246 (i : BitVec 1) : Spelled.Statement (.unused246 i) := by
  unfold Spelled.Statement; revert i; decide

theorem Spelled.unused248 (i : BitVec 2) : Spelled.Statement (.unused248 i) := by
  unfold Spelled.Statement; revert i; decide

theorem Spelled.unused252 (i : BitVec 1) : Spelled.Statement (.unused252 i) := by
  unfold Spelled.Statement; revert i; decide

theorem Spelled.unused254 : Spelled.Statement .unused254 := by
  unfold Spelled.Statement; decide

theorem Spelled.ledtest255 : Spelled.Statement .ledtest255 := by
  unfold Spelled.Statement; decide

end Sys2Proof.Laws
end

