-- ==== Sys2Proof/Tests/Slice0.lean ====
section
/-! SUPPORT. The author's own tests: the checks of WellFormed refuse ill-formed terms; words written out from the patterns of
30_encoding.md R50 decode to their instructions; the vectors of 95_test_vectors.md; single steps; and, for every obligation
with hypotheses, a state and operands that meet them. -/

namespace Sys2Proof.Tests

open Sys2Proof Sys2Proof.Machine Sys2Proof.Safety
open Host (Outcome)

/-- The reset state with the index of `i` and SEQ at `q`. -/
def at_ (i : Instr) (q : Seq) : State := { State.reset with idx := encode i, seq := q }

/-- The state after one step, where there is one. -/
def after (s : State) : Option State :=
  match step s with
  | .next t => some t
  | .fault _ => none
  | .refused _ => none

/-- Parameters for the vectors of 95_test_vectors.md section 2.7: the defaults, TM_TABLE[0] = (TX_CLK, (Blink, Off)),
LED_HALF_UNITS = 2. -/
def vectorParams : Params :=
  Params.withDefaults (fun _ => ⟨⟨0x1234#16, 0x00001#19⟩, ⟨0x8001#16, 0x7FFFF#19⟩⟩) (fun _ => ⟨.txClk, .blink, .off⟩) 1

/-! ### WellFormed smoke: each check refuses an ill-formed term (R59, R90, R118) -/

theorem test_spelling_amateur_refused : (Spelling.mk .amateur 80#8).wellFormed = false := by decide
theorem test_spelling_txtune_refused : (Spelling.mk .txTuning 113#8).wellFormed = false := by decide
theorem test_spelling_rxtune_refused : (Spelling.mk .rxTuning 112#8).wellFormed = false := by decide
theorem test_spelling_commercial_refused : (Spelling.mk .commercial 227#8).wellFormed = false := by decide
theorem test_spelling_testmode_refused : (Spelling.mk .testMode 246#8).wellFormed = false := by decide
theorem test_spelling_ledtest_refused : (Spelling.mk .ledTest 254#8).wellFormed = false := by decide
theorem test_spelling_unused_refused : (Spelling.mk .unused 245#8).wellFormed = false := by decide
theorem test_assemble_refuses : assemble ⟨.unused, 0xF0#8⟩ = .error (.illFormedSpelling ⟨.unused, 0xF0#8⟩) := by rfl
theorem test_assemble_accepts : assemble ⟨.testMode, 0xF2#8⟩ = .ok (.testmode240 2#2) := by rfl
theorem test_sendField_count_refused : (SendFieldCall.mk .tx 5 1 33).wellFormed vectorParams.maxBitCount = false := by decide
theorem test_sendField_cb_refused : (SendFieldCall.mk .tx 5 2 3).wellFormed vectorParams.maxBitCount = false := by decide
theorem test_operation_refused : (Operation.sendField ⟨.rx, 0, 2, 1⟩).wellFormed vectorParams.maxBitCount = false := by decide
theorem test_host_argument_0_refused : hostArgumentInRange 0 = false := by decide
theorem test_host_argument_257_refused : hostArgumentInRange 257 = false := by decide

/-! ### decoding: a word of every row, written out from R50's pattern -/

theorem test_decode_amateur :
    decode 0b00101101#8 = .ok (.amateur0 0b101101#6) ∧ decode 0b01001110#8 = .ok (.amateur64 0b1110#4) := ⟨rfl, rfl⟩
theorem test_decode_txtune :
    decode 0b01010110#8 = .ok (.txtune80 0b0110#4) ∧ decode 0b01101001#8 = .ok (.txtune96 0b1001#4) ∧
      decode 0b01110000#8 = .ok .txtune112 := ⟨rfl, rfl, rfl⟩
theorem test_decode_rxtune :
    decode 0b01110001#8 = .ok .rxtune113 ∧ decode 0b01110011#8 = .ok (.rxtune114 0b1#1) ∧
      decode 0b01110110#8 = .ok (.rxtune116 0b10#2) ∧ decode 0b01111011#8 = .ok (.rxtune120 0b011#3) := ⟨rfl, rfl, rfl, rfl⟩
theorem test_decode_commercial :
    decode 0b10110010#8 = .ok (.commercial128 0b110010#6) ∧ decode 0b11010110#8 = .ok (.commercial192 0b10110#5) ∧
      decode 0b11100001#8 = .ok (.commercial224 0b1#1) ∧ decode 0b11100010#8 = .ok .commercial226 := ⟨rfl, rfl, rfl, rfl⟩
theorem test_decode_unused_low :
    decode 0b11100011#8 = .ok .unused227 ∧ decode 0b11100110#8 = .ok (.unused228 0b10#2) ∧
      decode 0b11101101#8 = .ok (.unused232 0b101#3) := ⟨rfl, rfl, rfl⟩
theorem test_decode_testmode :
    decode 0b11110010#8 = .ok (.testmode240 0b10#2) ∧ decode 0b11110101#8 = .ok (.testmode244 0b1#1) := ⟨rfl, rfl⟩
theorem test_decode_unused_high :
    decode 0b11110111#8 = .ok (.unused246 0b1#1) ∧ decode 0b11111001#8 = .ok (.unused248 0b01#2) ∧
      decode 0b11111101#8 = .ok (.unused252 0b1#1) ∧ decode 0b11111110#8 = .ok .unused254 := ⟨rfl, rfl, rfl, rfl⟩
theorem test_decode_ledtest : decode 0b11111111#8 = .ok .ledtest255 := rfl
theorem test_decodeTableWord : decodeTableWord 8 0x50 = some (.txtune80 0#4) ∧ decodeTableWord 16 0x150 = none := ⟨rfl, rfl⟩
/-- R59's own example of a spelling. -/
theorem test_print_testmode : (Instr.testmode240 2#2).spelling.text = "TESTMODE 0xF2" := by decide

/-- R90's own example of a call. -/
theorem test_print_sendField : (Operation.sendField ⟨.tx, 0x1234, 1, 16⟩).text = "SENDFIELD TX, 0x1234, 1, 16" := by decide
theorem test_print_programmer :
    (Operation.progCh .rx).text = "PROGCH RX" ∧ (Operation.program true false).text = "PROGRAM 1, 0" := by decide
/-- 2.7's LEDTEST cycle, its runs of delay events in R59's short form. -/
theorem test_print_trace : traceText [.indicator .tx .on, .indicator .rx .on, .wait, .wait, .level .txClk false, .wait] =
    "I(TX,On) I(RX,On) W^2 L(TX_CLK,0) W" := by decide

/-! ### vectors of 95_test_vectors.md -/

/-- S7. -/
theorem test_S7 : composite 0x1234 true = 0x2469 ∧
    frameBits 0x1234 true 16 = [false, false, true, false, false, true, false, false, false, true, true, false, true, false,
      false, true] := by decide
/-- S8. -/
theorem test_S8 : composite 1 false = 2 ∧ frameBits 1 false 19 = List.replicate 17 false ++ [true, false] := by decide
/-- 2.3: raw 5, cb 1, n 3. -/
theorem test_frame_truncated : frameBits 5 true 3 = [false, true, true] := by decide
/-- 2.3: raw 0x8000, 16 bits: the top bit is dropped. -/
theorem test_frame_drops_ref15 : frameBits 0x8000 true 16 = List.replicate 15 false ++ [true] := by decide
/-- 2.4: SENDFIELD TX, 5, 1, 3. -/
theorem test_sendField_list : sendFieldEvents .tx 5 true 3 =
    [.level .txData false, .level .txClk false, .level .txLe false, .direction .txData .output, .direction .txClk .output,
     .direction .txLe .output,
     .level .txData false, .wait, .level .txClk true, .wait, .level .txClk false,
     .level .txData true, .wait, .level .txClk true, .wait, .level .txClk false,
     .level .txData true, .wait, .level .txClk true, .wait, .level .txClk false,
     .wait, .level .txLe true, .wait, .level .txLe false, .wait,
     .level .txData false, .level .txClk false, .level .txLe false, .wait] := by decide
/-- 2.4: the machine, called with SENDFIELD TX, 5, 1, 3, begins the frame with those operands. -/
theorem test_sendField_call : callSendField vectorParams ⟨.tx, 5, 1, 3⟩ .ref16 =
    .write (.frame .tx 3) (.sf (.init 0 ⟨5, true⟩) .tx .ref16) := by decide
/-- 2.4: and its step 2 makes the composite 0xB, whatever ENTRY holds. -/
theorem test_sendField_call_composite : sfAction { State.reset with curN := 3 } (.comp ⟨5, true⟩) .tx .ref16 =
    .write (.comp 0xB) (.sf (.setBit 2) .tx .ref16) := by decide
/-- R59 and R73: PROGRAM 0, 1 is PROGCH RX and TX's idle indicator event. -/
theorem test_program_expansion : (operationExpansion vectorParams (vectorParams.freqTable 0#8) (.program false true)) =
    [.event (.indicator .rx .on), .call ⟨.rx, 0x8001, 1, 16⟩, .call ⟨.rx, 0x7FFFF, 0, 19⟩, .event (.indicator .tx .off)] := by
  decide
/-- 2.1: the resolver at the range boundaries. -/
theorem test_resolver_boundaries :
    [0, 79, 80, 112, 113, 127, 128, 226, 227, 239, 240, 245, 246, 254, 255].map (fun n => modeOf (BitVec.ofNat 8 n)) =
      [.amateur, .amateur, .txTuning, .txTuning, .rxTuning, .rxTuning, .commercial, .commercial, .unused, .unused, .testMode,
        .testMode, .unused, .unused, .ledTest] := by decide
/-- 2.2: the host's arguments. -/
theorem test_host_mapping :
    hostAction [1] = .dispatch 0#8 ∧ hostAction [241] = .dispatch 240#8 ∧ hostAction [256] = .dispatch 255#8 ∧
      hostAction [0] = .rangeError ∧ hostAction [257] = .rangeError ∧ hostAction [] = .usage ∧ hostAction [1, 2] = .usage := by
  decide
/-- 2.7: TESTMODE 0xF0, the move after the direction event drives TM_START_LEVEL. -/
theorem test_testmode_level : testModeAction vectorParams 0xF0#8 (at_ (.testmode240 0#2) (.tm (.level false))) =
    .emit (.level .txClk true) (.tm (.hold false 0)) := by decide
/-- 2.7: after the one delay unit of the first half the second half's level is driven. -/
theorem test_testmode_hold : testModeAction vectorParams 0xF0#8 (at_ (.testmode240 0#2) (.tm (.hold false 0))) =
    .emit .wait (.tm (.level true)) := by decide
/-- 2.7: LEDTEST holds for LED_HALF_UNITS = 2 delay units. -/
theorem test_ledtest_hold : ledTestAction vectorParams 0xFF#8 (at_ .ledtest255 (.led (.hold false 0))) =
    .emit .wait (.led (.hold false 1)) := by decide
/-- 2.7: LEDTEST's second half turns TX off. -/
theorem test_ledtest_second_half : ledTestAction vectorParams 0xFF#8 (at_ .ledtest255 (.led (.ind true .tx))) =
    .emit (.indicator .tx .off) (.led (.ind true .rx)) := by decide
/-- P1: RX's indicator comes first, and REF16 has 16 bits. -/
theorem test_p1_first_event : programmingAction vectorParams .amateur 0#8
      { at_ (.amateur0 0#6) (.prog .rx .ind) with selRx := true } = .emit (.indicator .rx .on) (.prog .rx .ref) := by decide
theorem test_p1_composite : programmingAction vectorParams .amateur 0#8
      { at_ (.amateur0 0#6) (.sf (.comp ⟨0x8001, true⟩) .rx .ref16) with curCh := .rx, curN := 16 } =
    .write (.comp 0x10003) (.sf (.setBit 15) .rx .ref16) := by decide

/-- 2.2: an argument out of range raises no CMD_START, even where the outside would. -/
theorem test_refused_invocation : (invocation (hostAction [0]) 0 [⟨true, 5#8, false, false⟩]).env = [⟨false, 5#8, false, false⟩] := by
  decide

/-- R120: an ABORT at the boundary of CMD_START stops a hosted dispatch before it is accepted. -/
theorem test_hosted_abort_at_start :
    (after (invocation (hostAction [1]) 0 [⟨false, 0#8, true, false⟩])).map (fun t => (t.seq, t.idx, t.trace)) =
      some (.aborted, 0#8, []) := by decide
/-- Where the host waits one boundary, CMD_START stands at the second. -/
theorem test_hosted_wait : (invocation (hostAction [256]) 1 []).env = [Ports.quiet, ⟨true, 255#8, false, false⟩] := by decide

/-! ### single steps -/

theorem test_step_resolve_txtune : (after (at_ (.txtune80 0#4) .resolve)).map (fun t => (t.mode, t.selTx, t.selRx, t.seq)) =
    some (.txTuning, true, false, .prog .rx .ind) := by decide
theorem test_step_resolve_rxtune : (after (at_ .rxtune113 .resolve)).map (fun t => (t.mode, t.selTx, t.selRx, t.seq)) =
    some (.rxTuning, false, true, .prog .rx .ind) := by decide
theorem test_step_resolve_unused : (after (at_ .unused254 .resolve)).map (fun t => (t.mode, t.seq, t.trace)) =
    some (.unused, .done, []) := by decide
/-- Step 3 sends the bit of COMP at BITPOS on CUR_CH's data line. -/
theorem test_step_data_bit :
    (after { at_ (.amateur0 0#6) (.sf (.bit 0) .tx .ref16) with comp := 0x2469, bitpos := 5, curN := 16 }).map
        (fun t => (t.trace, t.lines.txData, t.seq)) =
      some ([.level .txData true], ⟨.one, .unknown⟩, .sf (.bit 1) .tx .ref16) := by decide
/-- CNT19 of TX returns to DONE. -/
theorem test_step_last_event :
    (after { at_ (.amateur0 0#6) (.sf (.low 3) .tx .cnt19) with curN := 19 }).map (fun t => (t.trace, t.seq)) =
      some ([.wait], .done) := by decide
/-- A collaborator failure at the second event. -/
theorem test_step_failure :
    (after { at_ (.amateur0 0#6) (.sf (.init 1 ⟨0x1234, true⟩) .tx .ref16) with
        trace := [.level .txData false], env := [⟨false, 0#8, false, true⟩] }).map (fun t => (t.seq, t.trace, t.fault)) =
      some (.faulted, [.level .txData false], some (.collaboratorFailed (.level .txClk false) 2)) := by decide
/-- ABORT stops a diagnostic loop and keeps the lines. -/
theorem test_step_abort :
    (after { at_ .ledtest255 (.led (.hold true 0)) with env := [⟨false, 0#8, true, false⟩] }).map (fun t => (t.seq, t.trace)) =
      some (.aborted, []) := by decide

/-! ### witnesses: states and operands that meet the obligations' hypotheses -/

/-- A programming command's state at `q`, no port raised. -/
def prog (q : Seq) : State := at_ (.amateur0 5#6) q

theorem witness_AssemblerRefusesExactlyIllFormedSpellings :
    (Spelling.mk .ledTest 0#8).wellFormed = false ∧ (Spelling.mk .ledTest 255#8).wellFormed = true := by decide

theorem witness_StepRunsDecodedInstruction :
    (prog .resolve).ports.abort = false ∧ (prog .resolve).seq.running = true ∧
      decode (prog .resolve).idx = .ok (.amateur0 5#6) := ⟨rfl, rfl, rfl⟩

theorem witness_LoadedWordRunsNext : (255 : Nat) < 256 ∧ decode (BitVec.ofNat 8 255) = .ok .ledtest255 := ⟨by decide, rfl⟩

theorem witness_DispatchAcceptedOnlyInIdle :
    (∃ s : State, s.seq = .idle ∧ s.ports.abort = false ∧ s.ports.cmdStart = true) ∧
      (State.reset.seq = .idle ∧ State.reset.ports.abort = false ∧ State.reset.ports.cmdStart = false) ∧
      (prog .done).seq ≠ .idle ∧ ∃ t, step (prog .done) = .next t :=
  ⟨⟨{ State.reset with env := [⟨true, 255#8, false, false⟩] }, rfl, rfl, rfl⟩, ⟨rfl, rfl, rfl⟩, by decide, _, rfl⟩

theorem witness_StepEmitsAtMostOneEvent :
    ∃ t, step (prog (.sf (.latch 1) .rx .cnt19)) = .next t ∧ t.trace = [.level .txLe true] := ⟨_, rfl, rfl⟩

theorem witness_InputDirectionIsNeverRequested :
    ∃ t, step (prog (.sf (.init 3 ⟨0x1234, true⟩) .tx .ref16)) = .next t ∧ t.trace = [.direction .txData .output] := ⟨_, rfl, rfl⟩

theorem witness_ExecFrame : ∃ t, exec (.amateur0 5#6) (prog (.sf (.bit 2) .tx .ref16)) = .next t ∧
    (prog (.sf (.bit 2) .tx .ref16)).ports.fails = false := ⟨_, rfl, rfl⟩

theorem witness_ResolveCompletesForEveryInstruction : (prog .resolve).seq = .resolve := rfl

theorem witness_ProgramMoves : Instr.mode (.amateur0 5#6) = .amateur ∧
    (prog (.prog .rx .ind)).ports.fails = false ∧ (prog (.prog .rx .ind)).selected .rx = false ∧
    ({ prog (.prog .tx .ind) with selTx := true }).selected .tx = true ∧
    (prog (.prog .tx .ref)).seq = .prog .tx .ref ∧ (prog (.prog .rx .cnt)).seq = .prog .rx .cnt := by decide

theorem witness_SendFieldStepMoves : Instr.mode .commercial226 = .commercial ∧
    (at_ .commercial226 (.sf (.init 5 ⟨0x1234, true⟩) .tx .ref16)).seq = .sf (.init 5 ⟨0x1234, true⟩) .tx .ref16 ∧
    (at_ .commercial226 (.sf (.comp ⟨1, false⟩) .tx .cnt19)).curN = 0 ∧
    (at_ .commercial226 (.sf (.latch 4) .tx .ref16)).ports.fails = false ∧
    (at_ .commercial226 (.sf (.low 3) .tx .cnt19)).seq = .sf (.low 3) .tx .cnt19 := by decide

theorem witness_BitLoopMoves : Instr.mode .rxtune113 = .rxTuning ∧
    (at_ .rxtune113 (.sf (.setBit 15) .rx .ref16)).seq = .sf (.setBit 15) .rx .ref16 ∧
    (at_ .rxtune113 (.sf (.bit 4) .rx .ref16)).bitpos = 0 ∧
    (at_ .rxtune113 (.sf (.bit 4) .rx .ref16)).ports.fails = false := by decide

theorem witness_DiagnosticMoves : Instr.mode (.testmode244 1#1) = .testMode ∧ Instr.mode .ledtest255 = .ledTest ∧
    (at_ (.testmode244 1#1) (.tm .dir)).seq = .tm .dir ∧ (at_ .ledtest255 (.led (.hold true 3))).ports.fails = false := by
  decide

theorem witness_UnusedIsASilentNoOp :
    (at_ .unused227 .resolve).idx.toNat = 227 ∧ (at_ (.unused232 7#3) .resolve).idx.toNat = 239 ∧
      (at_ (.unused246 0#1) .resolve).idx.toNat = 246 ∧ (at_ .unused254 .resolve).idx.toNat = 254 ∧
      (at_ .unused254 .resolve).seq = .resolve ∧ (at_ .unused254 .resolve).ports.abort = false := by decide

/-- No port is raised in a state with an empty port stream, so it is calm. -/
theorem calm_at (i : Instr) (q : Seq) : calm (at_ i q) := fun _ h => (List.not_mem_nil h).elim

theorem witness_AmateurAndCommercialRunToDone :
    (at_ (.amateur0 0#6) .resolve).seq = .resolve ∧ (at_ (.amateur0 0#6) .resolve).idx.toNat = 0 ∧
      (at_ (.amateur64 15#4) .resolve).idx.toNat = 79 ∧ (at_ (.commercial128 0#6) .resolve).idx.toNat = 128 ∧
      (at_ .commercial226 .resolve).idx.toNat = 226 ∧ calm (at_ .commercial226 .resolve) :=
  ⟨rfl, rfl, rfl, rfl, rfl, calm_at _ _⟩

theorem witness_TxTuneRunsToDone : (at_ (.txtune80 0#4) .resolve).idx.toNat = 80 ∧
    (at_ .txtune112 .resolve).idx.toNat = 112 ∧ (at_ .txtune112 .resolve).seq = .resolve ∧ calm (at_ .txtune112 .resolve) :=
  ⟨rfl, rfl, rfl, calm_at _ _⟩

theorem witness_RxTuneRunsToDone : (at_ .rxtune113 .resolve).idx.toNat = 113 ∧
    (at_ (.rxtune120 7#3) .resolve).idx.toNat = 127 ∧ (at_ .rxtune113 .resolve).seq = .resolve ∧
    calm (at_ .rxtune113 .resolve) := ⟨rfl, rfl, rfl, calm_at _ _⟩

theorem witness_SendFieldEmitsTheNumberedList :
    onSequence (prog (.sf (.init 0 ⟨0x1234, true⟩) .tx .cnt19)) ∧ calm (prog (.sf (.init 0 ⟨0x1234, true⟩) .tx .cnt19)) ∧
      (prog (.sf (.init 0 ⟨0x1234, true⟩) .tx .cnt19)).curN = 0 ∧
      onSequence { prog (.sf (.init 0 ⟨0x1234, true⟩) .rx .ref16) with curCh := .rx, curN := 16 } :=
  ⟨rfl, calm_at _ _, rfl, rfl⟩

theorem witness_EverySendFieldCallEmitsItsList : (0 : Nat) ≤ Config.params.maxBitCount ∧ (19 : Nat) ≤ Config.params.maxBitCount ∧
    (0 : Nat) ≤ 1 ∧ calm (at_ .commercial226 .idle) ∧ (at_ .commercial226 .idle).idx.toNat ≤ 226 :=
  ⟨by simp, by simp [Params.maxBitCount], by decide, calm_at _ _, by decide⟩

theorem witness_ProgChRunsItsExpansion : ({ prog (.prog .rx .ind) with selRx := true }).selected .rx = true ∧
    onSequence { prog (.prog .rx .ind) with selRx := true } ∧ calm { prog (.prog .rx .ind) with selRx := true } :=
  ⟨rfl, rfl, fun _ h => (List.not_mem_nil h).elim⟩

theorem witness_SendFieldLeavesItsLinesLow :
    (prog (.sf (.init 0 ⟨0x1234, true⟩) .tx .ref16)).seq = .sf (.init 0 ⟨0x1234, true⟩) .tx .ref16 ∧ onSequence (prog (.sf (.init 0 ⟨0x1234, true⟩) .tx .ref16)) ∧
      calm (prog (.sf (.init 0 ⟨0x1234, true⟩) .tx .ref16)) := ⟨rfl, rfl, calm_at _ _⟩

theorem witness_DataLineHoldsLastBitThroughLatch :
    (prog (.sf (.bit 0) .tx .ref16)).bitpos = 0 ∧ onSequence (prog (.sf (.bit 0) .tx .ref16)) ∧
      calm (prog (.sf (.bit 0) .tx .ref16)) := ⟨rfl, rfl, calm_at _ _⟩

theorem witness_TestModeDrivesASquareWave :
    (at_ (.testmode240 0#2) .resolve).idx = BitVec.ofNat 8 (240 + (0 : Fin 6)) ∧
      (at_ (.testmode244 1#1) .resolve).idx = BitVec.ofNat 8 (240 + (5 : Fin 6)) ∧
      (at_ (.testmode244 1#1) .resolve).seq = .resolve ∧ calm (at_ (.testmode244 1#1) .resolve) :=
  ⟨rfl, rfl, rfl, calm_at _ _⟩

theorem witness_LedTestAlternatesTheIndicators : (at_ .ledtest255 .resolve).idx = 0xFF#8 ∧
    (at_ .ledtest255 .resolve).seq = .resolve ∧ calm (at_ .ledtest255 .resolve) := ⟨rfl, rfl, calm_at _ _⟩

theorem witness_DiagnosticRunsNeverReachDone : (at_ (.testmode240 0#2) .resolve).idx.toNat = 240 ∧
    (at_ (.testmode244 1#1) .resolve).idx.toNat = 245 ∧ (at_ .ledtest255 .resolve).idx.toNat = 255 := by decide

theorem witness_DiagnosticRunsTouchNoOtherLine :
    (∃ p t, (at_ (.testmode240 0#2) .resolve).seq = .resolve ∧ runsTo 2 (at_ (.testmode240 0#2) .resolve) t ∧
      p ≠ (Config.tmTable (tmSub 240#8)).line) ∧
    ∃ t, runsTo 2 (at_ .ledtest255 .resolve) t := by
  refine ⟨?_, _, rfl⟩
  by_cases h : (Config.tmTable (tmSub 240#8)).line = .txClk
  · exact ⟨.rxLe, _, rfl, rfl, by rw [h]; decide⟩
  · exact ⟨.txClk, _, rfl, rfl, fun e => h e.symm⟩

theorem witness_RxStepPrecedesTxStep :
    inChannelStep .rx (Seq.sf (.low 3) .rx .cnt19) = true ∧
      frameRegisters { prog (.sf (.low 3) .rx .cnt19) with curCh := .rx, curN := 19 } ∧
      ∃ t, step { prog (.sf (.low 3) .rx .cnt19) with curCh := .rx, curN := 19 } = .next t ∧ t.trace = [.wait] ∧
        inChannelStep .rx t.seq = false :=
  ⟨rfl, ⟨rfl, rfl, rfl⟩, _, rfl, rfl, rfl⟩

theorem witness_SendFieldRefusesOutsideItsDomain : vectorParams.maxBitCount = 32 ∧
    vectorParams.maxBitCount < (SendFieldCall.mk .tx 5 1 33).n ∧ 1 < (SendFieldCall.mk .tx 5 2 3).cb ∧
    (SendFieldCall.mk .tx 5 1 32).n ≤ vectorParams.maxBitCount ∧ (SendFieldCall.mk .tx 5 1 32).cb ≤ 1 := by decide

theorem witness_CollaboratorFailureStopsInFaulted :
    let s := { prog (.sf (.init 2 ⟨0x1234, true⟩) .tx .ref16) with env := [⟨false, 0#8, false, true⟩] }
    s.ports.abort = false ∧ s.ports.fails = true ∧ s.seq.running = true ∧ decode s.idx = .ok (.amateur0 5#6) ∧
      commandAction Config.params .amateur (encode (.amateur0 5#6)) s =
        .emit (.level .txLe false) (.sf (.init 3 ⟨0x1234, true⟩) .tx .ref16) := ⟨rfl, rfl, rfl, rfl, rfl⟩

/-- `s` with ABORT at the coming boundary. -/
def aborting (s : State) : State := { s with env := [⟨false, 0#8, true, false⟩] }

theorem witness_AbortStopsTheBlock : (aborting State.reset).ports.abort = true ∧ (aborting State.reset).seq ≠ .done ∧
    (aborting State.reset).seq ≠ .faulted ∧ (prog .aborted).seq = .aborted := by decide

theorem witness_AbortAtFinalStates : (aborting (prog .faulted)).ports.abort = true ∧
    (aborting (prog .faulted)).seq = .faulted ∧ (aborting (prog .done)).seq = .done := by decide

theorem witness_FaultIsNeverCleared : (prog .faulted).seq = .faulted ∧ faultRecorded (prog .resolve) ∧
    ∃ t, step (prog .resolve) = .next t := ⟨rfl, by simp [faultRecorded, prog, at_, State.reset], _, rfl⟩

theorem witness_DoneIsIdle : (prog .done).seq = .done ∧ (prog .done).ports.abort = false := ⟨rfl, rfl⟩

theorem witness_OutputsFollowTheTraceInvariant : outputsFollowTrace (prog (.sf (.latch 1) .tx .ref16)) ∧
    ∃ t, step (prog (.sf (.latch 1) .tx .ref16)) = .next t ∧ (t.lines.get .txLe).lvl = .one :=
  ⟨⟨fun p => by cases p <;> exact ⟨rfl, rfl⟩, fun c => by cases c <;> rfl⟩, _, rfl, rfl⟩

theorem witness_DiagnosticCommandIsNeverLeft : inDiagnostic (at_ (.testmode244 1#1) (.tm .dir)) ∧
    inDiagnostic (at_ .ledtest255 .resolve) ∧ ∃ t, step (at_ (.testmode244 1#1) (.tm .dir)) = .next t :=
  ⟨rfl, .inr rfl, _, rfl⟩

theorem witness_StepNeverStopsOnSequence : onSequence (at_ (.testmode240 3#2) (.tm .indRx)) := rfl

theorem witness_FrameRegistersInvariant :
    frameRegisters { prog (.sf (.comp ⟨0, true⟩) .tx .ref16) with curN := 16 } ∧
      ∃ t, step { prog (.sf (.comp ⟨0, true⟩) .tx .ref16) with curN := 16 } = .next t ∧ t.seq = .sf (.setBit 15) .tx .ref16 :=
  ⟨⟨rfl, rfl, rfl⟩, _, rfl, rfl⟩

theorem witness_DispatchRegistersInvariant :
    let s := { at_ .unused227 .done with entry := Config.freqTable 227#8 }
    dispatchRegisters s ∧ ∃ t, step s = .next t := ⟨⟨rfl, rfl, rfl, rfl⟩, _, rfl⟩

theorem witness_RegistersKeepTheirWidths : registersFit Config.params (prog .resolve) ∧
    ∃ t, step (prog .resolve) = .next t :=
  ⟨by simp [registersFit, prog, at_, State.reset, Params.maxBitCount], _, rfl⟩

theorem witness_ResetRegistersAreUnobservable :
    let s := { State.reset with comp := 7, idx := 255#8, selTx := true }
    s.seq = .idle ∧ s.lines = State.reset.lines ∧ s.inds = State.reset.inds ∧ s.trace = State.reset.trace ∧
      s.fault = State.reset.fault ∧ s.env = State.reset.env ∧ s ≠ State.reset := by decide

theorem witness_HostDispatchesTheIndexBelowItsArgument : (1 : Int) ≤ 1 ∧ (1 : Int) ≤ 256 ∧ (256 : Int) ≤ 256 ∧
    ∀ p ∈ [Ports.quiet, Ports.mk true 3#8 false true, Ports.mk false 0#8 true false].take (1 + 1), p.abort = false := by decide

/-- ABORT at the boundary of CMD_START (`j = wait`), and one boundary later. -/
theorem witness_HostMayAbortAtAnyBoundary :
    [Ports.quiet, Ports.mk false 0#8 true false][1]? = some ⟨false, 0#8, true, false⟩ ∧
      (Ports.mk false 0#8 true false).abort = true ∧ 1 ≤ 1 ∧ ¬1 ≤ 0 := by decide

theorem witness_RefusedInvocationsEmitNothing : (0 : Int) < 1 ∧ (256 : Int) < 257 ∧ ([] : List Int).length ≠ 1 ∧
    [(1 : Int), 2].length ≠ 1 ∧ hostAction [0] = .rangeError ∧ hostAction [] = .usage := by decide

theorem witness_HostedInvocationEndsWell :
    (1 ≤ 1 ∧ 1 ≤ 240) ∧ (1 ≤ 240 ∧ 240 ≤ 240) ∧ (247 ≤ 247 ∧ 247 ≤ 255) ∧ (247 ≤ 255 ∧ 255 ≤ 255) ∧
      ∀ p ∈ [Ports.quiet], p.abort = false ∧ p.fails = false := by decide

theorem witness_TestModeSubIndex : 240 ≤ (240#8).toNat ∧ (245#8).toNat ≤ 245 ∧ tmSub 245#8 = 5 := by decide

theorem witness_TruncationCornerCases : 1 ≤ 1 ∧ sendFieldEvents .tx 1 false 1 = sendFieldEvents .tx 0 false 1 := by decide

theorem witness_FrameSendsTheLowBits : 15 < 16 ∧ (frameBits 0x1234 true 16)[15]? = some true := by decide

end Sys2Proof.Tests
end

/-! Lemmas and proofs for the statements about the state (10_state.md): what a step can do, named once as `Steps`, and the
invariants and run claims that follow from it. -/

namespace Sys2Proof.Machine

open Sys2Proof.Safety

/-! ### the decoder and the command IDX holds -/

/-- Every word decodes to an instruction of the mode the priority table gives it, and whose word it is (R50, R62). -/
theorem decode_mode_encode (x : Word) :
    (decode x).toOption.map (fun i => (i.mode, encode i)) = some (modeOf x, x) := by
  revert x; decide

theorem exists_decode (x : Word) : ∃ i, decode x = .ok i := by
  have hx := decode_mode_encode x
  cases hd : decode x with
  | ok i => exact ⟨i, rfl⟩
  | error r => simp [hd, Except.toOption] at hx

theorem mode_and_encode_of_decode {x : Word} {i : Instr} (h : decode x = .ok i) : i.mode = modeOf x ∧ encode i = x := by
  simpa [h, Except.toOption] using decode_mode_encode x

/-- The action of the command IDX holds, at the position SEQ holds. -/
def move (s : State) : Action := commandAction Config.params (modeOf s.idx) s.idx s

theorem exec_eq_act_move {s : State} {i : Instr} (h : decode s.idx = .ok i) : exec i s = act (move s) s := by
  obtain ⟨hm, he⟩ := mode_and_encode_of_decode h
  rw [exec_eq_act, hm, he, move]

theorem runningMove_eq_exec {s : State} {i : Instr} (h : decode s.idx = .ok i) : runningMove s = exec i s := by
  simp [runningMove, h]

theorem runningMove_eq_act_move (s : State) : runningMove s = act (move s) s := by
  obtain ⟨i, hi⟩ := exists_decode s.idx
  rw [runningMove_eq_exec hi, exec_eq_act_move hi]

/-! ### the three kinds of step -/

theorem step_of_abort {s : State} (h : s.abortNow = true) : step s = .next (takeAbort s).nextPorts := by
  simp [step, h, afterMove]

theorem step_of_running {s : State} (ha : s.abortNow = false) (hr : s.seq.running = true) :
    step s = afterMove (act (move s) s) := by
  simp [step, ha, hr, runningMove_eq_act_move]

theorem step_of_not_running {s : State} (ha : s.abortNow = false) (hr : s.seq.running = false) :
    step s = .next (idleMove s).nextPorts := by
  simp [step, ha, hr, afterMove]

theorem abortNow_eq_false {s : State} (h : s.ports.abort = false) : s.abortNow = false := by
  simp [State.abortNow, h]

theorem abortNow_of_faulted {s : State} (h : s.seq = .faulted) : s.abortNow = false := by
  simp [State.abortNow, h]

theorem idleMove_of_not_idle {s : State} (h : s.seq ≠ .idle) : idleMove s = s := by
  simp [idleMove, h]

/-! ### the events and the register writes a command can make -/

/-- The event a command emits and where SEQ goes then: every way a position of SEQ has of emitting one (R73, R81, R83,
R91..R95). -/
inductive Emits (P : Params) (x : Word) (s : State) : Event → Seq → Prop
  | active {ch : Channel} (hq : s.seq = .prog ch .ind) (hsel : s.selected ch = true) :
      Emits P x s (.indicator ch P.indActive) (.prog ch .ref)
  | idle {ch : Channel} (hq : s.seq = .prog ch .ind) (hsel : s.selected ch = false) :
      Emits P x s (.indicator ch P.indIdle) (afterChannel ch)
  | init {k : Fin 6} {o : SfOperands} {ch : Channel} {f : Frame} (hq : s.seq = .sf (.init k o) ch f) :
      Emits P x s (initEvent s.curCh k) (.sf (if k = 5 then .comp o else .init (k + 1) o) ch f)
  | bit {q : Fin 5} {ch : Channel} {f : Frame} (hq : s.seq = .sf (.bit q) ch f) :
      Emits P x s (bitEvent s.curCh (bitOf s.comp s.bitpos) q)
        (.sf (if q = 4 then bitLoop s.bitpos else .bit (q + 1)) ch f)
  | latch {q : Fin 5} {ch : Channel} {f : Frame} (hq : s.seq = .sf (.latch q) ch f) :
      Emits P x s (latchEvent s.curCh q) (.sf (if q = 4 then .low 0 else .latch (q + 1)) ch f)
  | low {q : Fin 4} {ch : Channel} {f : Frame} (hq : s.seq = .sf (.low q) ch f) :
      Emits P x s (lowEvent s.curCh q) (if q = 3 then sfReturn ch f else .sf (.low (q + 1)) ch f)
  | testMode {pos next : TmPos} {e : Event} (hq : s.seq = .tm pos)
      (ha : tmAction P (tmRead P (tmSub x)) pos = .emit e (.tm next)) : Emits P x s e (.tm next)
  | ledTest {pos next : LedPos} {e : Event} (hq : s.seq = .led pos)
      (ha : ledAction P pos = .emit e (.led next)) : Emits P x s e (.led next)

/-- Where RESOLVE goes (R65). -/
def afterResolve : OperatingMode → Seq
  | .amateur => .prog .rx .ind
  | .txTuning => .prog .rx .ind
  | .rxTuning => .prog .rx .ind
  | .commercial => .prog .rx .ind
  | .testMode => .tm .indTx
  | .ledTest => .led (.ind false .tx)
  | .unused => .done

/-- The part of PROGRAM's step that calls a frame (R75). -/
def framePart : Frame → Part
  | .ref16 => .ref
  | .cnt19 => .cnt

/-- The register write a command makes and where SEQ goes then: RESOLVE's (R62..R65), a frame's call (R75), and SENDFIELD's
steps 2 and 3 (R92, R93). -/
inductive Writes (P : Params) (m : OperatingMode) (x : Word) (s : State) : RegWrite → Seq → Prop
  | resolve (hq : s.seq = .resolve) : Writes P m x s (resolveWrite P m x) (afterResolve m)
  | call {ch : Channel} {f : Frame} (hq : s.seq = .prog ch (framePart f)) :
      Writes P m x s (.frame ch (frameN f)) (.sf (.init 0 (frameOperands s.entry ch f)) ch f)
  | comp {o : SfOperands} {ch : Channel} {f : Frame} (hq : s.seq = .sf (.comp o) ch f) :
      Writes P m x s (.comp (composite o.raw o.cb)) (.sf (bitLoop s.curN) ch f)
  | bitpos {i : Nat} {ch : Channel} {f : Frame} (hq : s.seq = .sf (.setBit i) ch f) :
      Writes P m x s (.bitpos i) (.sf (.bit 0) ch f)

/-- An action that is an event or a write of those. -/
inductive Acts (P : Params) (m : OperatingMode) (x : Word) (s : State) : Action → Prop
  | emit {e : Event} {q : Seq} (h : Emits P x s e q) : Acts P m x s (.emit e q)
  | write {w : RegWrite} {q : Seq} (h : Writes P m x s w q) : Acts P m x s (.write w q)

/-- TESTMODE_RUN emits at each of its positions and stays inside (R81, R82); it requests direction Out only. -/
theorem tmAction_emits (P : Params) (row : TmRow) (pos : TmPos) :
    ∃ e next, tmAction P row pos = .emit e (.tm next) ∧ ∀ p, e ≠ .direction p .input := by
  cases pos <;> exact ⟨_, _, rfl, by simp⟩

/-- LEDTEST_RUN emits at each of its positions and stays inside (R83, R84); it requests no direction. -/
theorem ledAction_emits (P : Params) (pos : LedPos) :
    ∃ e next, ledAction P pos = .emit e (.led next) ∧ ∀ p d, e ≠ .direction p d := by
  match pos with
  | .ind _ .tx => exact ⟨_, _, rfl, by simp⟩
  | .ind _ .rx => exact ⟨_, _, rfl, by simp⟩
  | .hold _ _ => exact ⟨_, _, rfl, by simp⟩

theorem progAction_acts (P : Params) (m : OperatingMode) (x : Word) {s : State} {ch : Channel} {part : Part}
    (hq : s.seq = .prog ch part) : Acts P m x s (progAction P s ch part) := by
  cases part with
  | ind =>
    cases hsel : s.selected ch with
    | true => simpa [progAction, hsel] using Acts.emit (Emits.active hq hsel)
    | false => simpa [progAction, hsel] using Acts.emit (Emits.idle hq hsel)
  | ref =>
    rw [show progAction P s ch .ref = _ from callSendField_frame P s.entry ch .ref16]
    exact .write (.call hq)
  | cnt =>
    rw [show progAction P s ch .cnt = _ from callSendField_frame P s.entry ch .cnt19]
    exact .write (.call hq)

theorem sfAction_acts (P : Params) (m : OperatingMode) (x : Word) {s : State} {pos : SfPos} {ch : Channel} {f : Frame}
    (hq : s.seq = .sf pos ch f) : Acts P m x s (sfAction s pos ch f) := by
  cases pos with
  | init k o => exact .emit (.init hq)
  | comp o => exact .write (.comp hq)
  | setBit i => exact .write (.bitpos hq)
  | bit q => exact .emit (.bit hq)
  | latch q => exact .emit (.latch hq)
  | low q => exact .emit (.low hq)

theorem modeHas_prog {m : OperatingMode} {ch : Channel} {part : Part} :
    modeHas m (.prog ch part) = true ↔ m = .amateur ∨ m = .txTuning ∨ m = .rxTuning ∨ m = .commercial := by
  simp [modeHas, or_assoc]

theorem modeHas_sf {m : OperatingMode} {pos : SfPos} {ch : Channel} {f : Frame} :
    modeHas m (.sf pos ch f) = true ↔ m = .amateur ∨ m = .txTuning ∨ m = .rxTuning ∨ m = .commercial := by
  simp [modeHas, or_assoc]

/-- A running command emits or writes at each position it has. -/
theorem commandAction_acts (P : Params) {m : OperatingMode} (x : Word) {s : State} (hr : s.seq.running = true)
    (hm : modeHas m s.seq = true) : Acts P m x s (commandAction P m x s) := by
  cases hq : s.seq with
  | resolve =>
    rw [commandAction_resolve hq]
    cases m <;> exact .write (.resolve hq)
  | prog ch part =>
    rw [commandAction_prog hq, if_pos (modeHas_prog.1 (hq ▸ hm))]
    exact progAction_acts P m x hq
  | sf pos ch f =>
    rw [commandAction_sf hq, if_pos (modeHas_sf.1 (hq ▸ hm))]
    exact sfAction_acts P m x hq
  | tm pos =>
    obtain ⟨e, next, ha, -⟩ := tmAction_emits P (tmRead P (tmSub x)) pos
    rw [commandAction_tm hq, if_pos (by simpa [hq, modeHas] using hm), ha]
    exact .emit (.testMode hq ha)
  | led pos =>
    obtain ⟨e, next, ha, -⟩ := ledAction_emits P pos
    rw [commandAction_led hq, if_pos (by simpa [hq, modeHas] using hm), ha]
    exact .emit (.ledTest hq ha)
  | idle => simp [hq, Seq.running] at hr
  | done => simp [hq, Seq.running] at hr
  | aborted => simp [hq, Seq.running] at hr
  | faulted => simp [hq, Seq.running] at hr

/-- A command has no action at a position it does not have (log 11). -/
theorem commandAction_off (P : Params) {m : OperatingMode} (x : Word) {s : State} (hm : modeHas m s.seq = false) :
    commandAction P m x s = .off := by
  cases hq : s.seq with
  | prog ch part =>
    rw [commandAction_prog hq, if_neg fun hp => by simp [hq, modeHas_prog.2 hp] at hm]
  | sf pos ch f =>
    rw [commandAction_sf hq, if_neg fun hp => by simp [hq, modeHas_sf.2 hp] at hm]
  | tm pos => rw [commandAction_tm hq, if_neg (by simpa [hq, modeHas] using hm)]
  | led pos => rw [commandAction_led hq, if_neg (by simpa [hq, modeHas] using hm)]
  | idle => simp [hq, modeHas] at hm
  | resolve => simp [hq, modeHas] at hm
  | done => simp [hq, modeHas] at hm
  | aborted => simp [hq, modeHas] at hm
  | faulted => simp [hq, modeHas] at hm

/-- All a command can do: stay where none runs, stop where it lacks the position, or emit or write. -/
theorem commandAction_cases (P : Params) (m : OperatingMode) (x : Word) (s : State) :
    (s.seq.running = false ∧ commandAction P m x s = .stay) ∨ commandAction P m x s = .off ∨
      Acts P m x s (commandAction P m x s) := by
  cases hr : s.seq.running with
  | false => exact .inl ⟨rfl, commandAction_stay hr⟩
  | true =>
    cases hm : modeHas m s.seq with
    | false => exact .inr (.inl (commandAction_off P x hm))
    | true => exact .inr (.inr (commandAction_acts P x hr hm))

theorem emits_of_commandAction {P : Params} {m : OperatingMode} {x : Word} {s : State} {e : Event} {q : Seq}
    (h : commandAction P m x s = .emit e q) : Emits P x s e q := by
  obtain ⟨-, hs⟩ | ho | ha := commandAction_cases P m x s
  · simp [hs] at h
  · simp [ho] at h
  · rw [h] at ha
    cases ha with | emit he => exact he

theorem writes_of_commandAction {P : Params} {m : OperatingMode} {x : Word} {s : State} {w : RegWrite} {q : Seq}
    (h : commandAction P m x s = .write w q) : Writes P m x s w q := by
  obtain ⟨-, hs⟩ | ho | ha := commandAction_cases P m x s
  · simp [hs] at h
  · simp [ho] at h
  · rw [h] at ha
    cases ha with | write hw => exact hw

/-! ### what an event or a write leaves of SEQ -/

/-- An event comes from a position inside a run, RESOLVE excluded. -/
theorem Emits.seq_running {P : Params} {x : Word} {s : State} {e : Event} {q : Seq} (h : Emits P x s e q) :
    s.seq.running = true ∧ s.seq ≠ .resolve := by
  cases h <;> simp_all [Seq.running]

theorem Emits.next_ne_faulted {P : Params} {x : Word} {s : State} {e : Event} {q : Seq} (h : Emits P x s e q) :
    q ≠ .faulted := by
  cases h with
  | @idle ch => cases ch <;> simp [afterChannel]
  | @low q ch f => cases ch <;> cases f <;> split <;> simp [sfReturn, afterChannel]
  | active | init | bit | latch | testMode | ledTest => simp

theorem Writes.seq_running {P : Params} {m : OperatingMode} {x : Word} {s : State} {w : RegWrite} {q : Seq}
    (h : Writes P m x s w q) : s.seq.running = true := by
  cases h <;> simp_all [Seq.running]

theorem Writes.next_ne_faulted {P : Params} {m : OperatingMode} {x : Word} {s : State} {w : RegWrite} {q : Seq}
    (h : Writes P m x s w q) : q ≠ .faulted := by
  cases h with
  | resolve => cases m <;> simp [afterResolve]
  | call | comp | bitpos => simp

theorem modeHas_afterChannel {m : OperatingMode} {ch c : Channel} {part : Part} (h : modeHas m (.prog c part) = true) :
    modeHas m (afterChannel ch) = true := by
  cases ch with
  | rx => exact h
  | tx => rfl

theorem modeHas_sfReturn {m : OperatingMode} {ch c : Channel} {f : Frame} {part : Part}
    (h : modeHas m (.prog c part) = true) : modeHas m (sfReturn ch f) = true := by
  cases f with
  | ref16 => exact h
  | cnt19 => exact modeHas_afterChannel h

/-- An event leads to a position of the same command (R24). -/
theorem Emits.modeHas_next {P : Params} {m : OperatingMode} {x : Word} {s : State} {e : Event} {q : Seq}
    (h : Emits P x s e q) (hm : modeHas m s.seq = true) : modeHas m q = true := by
  cases h with
  | active hq => rw [hq] at hm; exact hm
  | idle hq => rw [hq] at hm; exact modeHas_afterChannel hm
  | init hq => rw [hq] at hm; exact hm
  | bit hq => rw [hq] at hm; exact hm
  | latch hq => rw [hq] at hm; exact hm
  | low hq =>
    rw [hq] at hm
    split
    · exact modeHas_sfReturn (c := .tx) (part := .ind) hm
    · exact hm
  | testMode hq => rw [hq] at hm; exact hm
  | ledTest hq => rw [hq] at hm; exact hm

/-- A register write leads to a position of the same command (R24, R65). -/
theorem Writes.modeHas_next {P : Params} {m : OperatingMode} {x : Word} {s : State} {w : RegWrite} {q : Seq}
    (h : Writes P m x s w q) (hm : modeHas m s.seq = true) : modeHas m q = true := by
  cases h with
  | resolve => cases m <;> rfl
  | call hq => rw [hq] at hm; exact hm
  | comp hq => rw [hq] at hm; exact hm
  | bitpos hq => rw [hq] at hm; exact hm

/-! ### what events are requested -/

theorem initEvent_ne_input (c : Channel) (k : Fin 6) (p : Line) : initEvent c k ≠ .direction p .input := by
  fin_cases k <;> simp [initEvent]

theorem bitEvent_ne_direction (c : Channel) (b : Bool) (q : Fin 5) (p : Line) (d : Direction) :
    bitEvent c b q ≠ .direction p d := by
  fin_cases q <;> simp [bitEvent]

theorem latchEvent_ne_direction (c : Channel) (q : Fin 5) (p : Line) (d : Direction) :
    latchEvent c q ≠ .direction p d := by
  fin_cases q <;> simp [latchEvent]

theorem lowEvent_ne_direction (c : Channel) (q : Fin 4) (p : Line) (d : Direction) :
    lowEvent c q ≠ .direction p d := by
  fin_cases q <;> simp [lowEvent]

/-- No command requests direction In (R26, R87). -/
theorem Emits.ne_input {P : Params} {x : Word} {s : State} {e : Event} {q : Seq} (h : Emits P x s e q) (p : Line) :
    e ≠ .direction p .input := by
  cases h with
  | active => simp
  | idle => simp
  | init => exact initEvent_ne_input _ _ _
  | bit => exact bitEvent_ne_direction _ _ _ _ _
  | latch => exact latchEvent_ne_direction _ _ _ _
  | low => exact lowEvent_ne_direction _ _ _ _
  | @testMode pos next e hq ha =>
    obtain ⟨e', next', ha', hd⟩ := tmAction_emits P (tmRead P (tmSub x)) pos
    cases ha.symm.trans ha'
    exact hd p
  | @ledTest pos next e hq ha =>
    obtain ⟨e', next', ha', hd⟩ := ledAction_emits P pos
    cases ha.symm.trans ha'
    exact hd p .input

/-! ### all a step can do -/

/-- All a step can do: ABORT, an event that fails, an event performed, a register write, the acceptance of a dispatch, or
nothing (R24, R61, R104, R106); then the ports move on. -/
inductive Steps (s : State) : State → Prop
  | abort (h : s.abortNow = true) : Steps s (takeAbort s).nextPorts
  | fault {e : Event} {q : Seq} (h : Emits Config.params s.idx s e q) (hf : s.ports.fails = true) :
      Steps s (takeFault e s).nextPorts
  | event {e : Event} {q : Seq} (h : Emits Config.params s.idx s e q) (hf : s.ports.fails = false) :
      Steps s ((perform e s).goto q).nextPorts
  | write {w : RegWrite} {q : Seq} (h : Writes Config.params (modeOf s.idx) s.idx s w q) :
      Steps s ((writeRegs w s).goto q).nextPorts
  | accept (h : s.seq = .idle) : Steps s (accept s).nextPorts
  | stay (h : s.seq.running = false) : Steps s s.nextPorts

theorem steps_of_exec {s u : State} {i : Instr} (hr : s.seq.running = true) (hd : decode s.idx = .ok i)
    (h : exec i s = .next u) : Steps s u.nextPorts := by
  obtain ⟨hm, hx⟩ := mode_and_encode_of_decode hd
  obtain ⟨e, q, ha, rfl⟩ | ⟨w, q, ha, rfl⟩ | ⟨ha, rfl⟩ := exec_cases h
  · rw [hm, hx] at ha
    obtain ⟨hf, he⟩ | ⟨hf, he⟩ := emit_cases e q s
    · exact he ▸ .fault (emits_of_commandAction ha) hf
    · exact he ▸ .event (emits_of_commandAction ha) hf
  · rw [hm, hx] at ha
    exact .write (writes_of_commandAction ha)
  · obtain ⟨hs, -⟩ | ho | hacts := commandAction_cases Config.params i.mode (encode i) u
    · exact .stay hs
    · simp [ho] at ha
    · rw [ha] at hacts; cases hacts

theorem steps_of_idleMove {s : State} (hr : s.seq.running = false) : Steps s (idleMove s).nextPorts := by
  unfold idleMove
  split
  · next h => exact .accept (by simp_all)
  · exact .stay hr

theorem steps_of_step {s t : State} (h : step s = .next t) : Steps s t := by
  obtain ⟨ha, rfl⟩ | ⟨-, hr, i, u, hd, hu, rfl⟩ | ⟨-, hr, rfl⟩ := step_cases h
  · exact .abort ha
  · exact steps_of_exec hr hd hu
  · exact steps_of_idleMove hr
/-! ### the trace, the lines and the indicators (R26..R28) -/

/-- A step leaves the outputs as they are, or performs one event of the command on them. -/
theorem Steps.outputs {s t : State} (h : Steps s t) :
    (t.trace = s.trace ∧ t.lines = s.lines ∧ t.inds = s.inds) ∨
      ∃ e q, Emits Config.params s.idx s e q ∧
        t.trace = s.trace ++ [e] ∧ t.lines = (perform e s).lines ∧ t.inds = (perform e s).inds := by
  cases h with
  | abort => exact .inl ⟨rfl, rfl, rfl⟩
  | fault => exact .inl ⟨rfl, rfl, rfl⟩
  | @event e q he => exact .inr ⟨e, q, he, by simp, rfl, rfl⟩
  | write => exact .inl ⟨by simp [writeRegs_trace], by simp [writeRegs_lines], by simp [writeRegs_inds]⟩
  | accept => exact .inl ⟨rfl, rfl, rfl⟩
  | stay => exact .inl ⟨rfl, rfl, rfl⟩

theorem outputsFollowTrace_of_eq {s t : State} (hs : outputsFollowTrace s) (ht : t.trace = s.trace)
    (hl : t.lines = s.lines) (hi : t.inds = s.inds) : outputsFollowTrace t := by
  simpa [outputsFollowTrace, ht, hl, hi] using hs

/-- Performing an event keeps the outputs the last values the trace wrote (R28). -/
theorem outputsFollowTrace_perform {s : State} (hs : outputsFollowTrace s) (e : Event) :
    outputsFollowTrace (perform e s) := by
  obtain ⟨hlines, hinds⟩ := hs
  refine ⟨fun p => ?_, fun ch => ?_⟩
  · obtain ⟨hlvl, hdir⟩ := hlines p
    simp [perform_level, perform_dir, hlvl, hdir]
  · simp [perform_ind, hinds ch]

/-- Settles O47: a step leaves the outputs alone or performs one event. -/
theorem outputsFollowTheTraceInvariant : Obligations.OutputsFollowTheTraceInvariant := by
  intro s t hs hstep
  obtain ⟨ht, hl, hi⟩ | ⟨e, q, -, ht, hl, hi⟩ := (steps_of_step hstep).outputs
  · exact outputsFollowTrace_of_eq hs ht hl hi
  · exact outputsFollowTrace_of_eq (outputsFollowTrace_perform hs e) (by simp [ht]) hl hi

/-- Settles O12: a step that changes the trace performs one event. -/
theorem stepEmitsAtMostOneEvent : Obligations.StepEmitsAtMostOneEvent := by
  intro s t hstep
  obtain ⟨ht, -, -⟩ | ⟨e, q, -, ht, -, -⟩ := (steps_of_step hstep).outputs
  · exact .inl ht
  · exact .inr ⟨e, ht⟩

/-- Settles O13: the event of a step is one a command emits, and none of those requests direction In. -/
theorem inputDirectionIsNeverRequested : Obligations.InputDirectionIsNeverRequested := by
  intro s t p hstep happ
  obtain ⟨ht, -, -⟩ | ⟨e, q, he, ht, -, -⟩ := (steps_of_step hstep).outputs
  · simp [happ] at ht
  · exact he.ne_input p (by simpa [ht] using happ)

/-! ### the frame of exec -/

/-- What a register write changes, by the position it is made at (R22). -/
theorem Writes.frame {P : Params} {m : OperatingMode} {x : Word} {s : State} {w : RegWrite} {q : Seq}
    (h : Writes P m x s w q) :
    (s.seq ≠ .resolve → (writeRegs w s).mode = s.mode ∧ (writeRegs w s).selTx = s.selTx ∧
        (writeRegs w s).selRx = s.selRx ∧ (writeRegs w s).entry = s.entry) ∧
      ((∀ ch part, s.seq ≠ .prog ch part) → (writeRegs w s).curCh = s.curCh ∧ (writeRegs w s).curN = s.curN) ∧
      ((∀ o ch f, s.seq ≠ .sf (.comp o) ch f) → (writeRegs w s).comp = s.comp) ∧
      ((∀ b ch f, s.seq ≠ .sf (.setBit b) ch f) → (writeRegs w s).bitpos = s.bitpos) := by
  cases h with
  | resolve hq => exact ⟨fun hn => absurd hq hn, fun _ => ⟨rfl, rfl⟩, fun _ => rfl, fun _ => rfl⟩
  | call hq => exact ⟨fun _ => ⟨rfl, rfl, rfl, rfl⟩, fun hn => absurd hq (hn _ _), fun _ => rfl, fun _ => rfl⟩
  | comp hq => exact ⟨fun _ => ⟨rfl, rfl, rfl, rfl⟩, fun _ => ⟨rfl, rfl⟩, fun hn => absurd hq (hn _ _ _), fun _ => rfl⟩
  | bitpos hq => exact ⟨fun _ => ⟨rfl, rfl, rfl, rfl⟩, fun _ => ⟨rfl, rfl⟩, fun _ => rfl, fun hn => absurd hq (hn _ _ _)⟩

/-- Settles O14, by what the action of the command was: an event (which may fail), a register write, or none. -/
theorem execFrame : Obligations.ExecFrame := by
  intro i s t h
  obtain ⟨e, q, -, rfl⟩ | ⟨w, q, ha, rfl⟩ | ⟨-, rfl⟩ := exec_cases h
  · obtain ⟨hf, he⟩ | ⟨-, he⟩ := emit_cases e q s <;> rw [he]
    · simp [hf]
    · exact ⟨by simp, by simp, by simp, by simp, by simp, by simp, by simp, .inr ⟨e, by simp, rfl, rfl⟩⟩
  · obtain ⟨hresolve, hprog, hcomp, hbitpos⟩ := (writes_of_commandAction ha).frame
    exact ⟨writeRegs_idx w s, writeRegs_env w s, hresolve, hprog, hcomp, hbitpos, fun _ => writeRegs_fault w s,
      .inl ⟨writeRegs_trace w s, writeRegs_lines w s, writeRegs_inds w s⟩⟩
  · simp

/-! ### SEQ stays on sequence (R24) -/

theorem onSequence_of_not_running {s : State} (h : s.seq.running = false) : onSequence s := by
  unfold onSequence
  cases hq : s.seq <;> simp_all [Seq.running, modeHas]

theorem Steps.onSequence_next {s t : State} (h : Steps s t) (hs : onSequence s) : onSequence t := by
  cases h with
  | abort => rfl
  | fault => rfl
  | event he => simpa [onSequence] using he.modeHas_next hs
  | write hw => simpa [onSequence, writeRegs_idx] using hw.modeHas_next hs
  | accept => rfl
  | stay => exact hs

/-- On sequence a running command emits an event or writes registers. -/
theorem move_acts {s : State} (hs : onSequence s) (hr : s.seq.running = true) :
    Acts Config.params (modeOf s.idx) s.idx s (move s) :=
  commandAction_acts Config.params s.idx hr hs

theorem exists_step_of_onSequence {s : State} (hs : onSequence s) : ∃ t, step s = .next t := by
  cases ha : s.abortNow with
  | true => exact ⟨_, step_of_abort ha⟩
  | false =>
    cases hr : s.seq.running with
    | false => exact ⟨_, step_of_not_running ha hr⟩
    | true =>
      rw [step_of_running ha hr]
      have hacts := move_acts hs hr
      generalize move s = a at hacts ⊢
      cases hacts <;> exact ⟨_, rfl⟩

/-- Settles O49: the command has a move at its own positions, and each leads to another of them. -/
theorem stepNeverStopsOnSequence : Obligations.StepNeverStopsOnSequence := by
  intro s hs
  obtain ⟨t, ht⟩ := exists_step_of_onSequence hs
  exact ⟨t, ht, (steps_of_step ht).onSequence_next hs⟩

/-! ### FAULT is set exactly in FAULTED (R29) -/

theorem fault_of_not_faulted {s : State} (hs : faultRecorded s) (hq : s.seq ≠ .faulted) : s.fault = none := by
  by_contra hne
  exact hq (hs.2 hne)

theorem faultRecorded_of_not_faulted {s : State} (hq : s.seq ≠ .faulted) (hf : s.fault = none) : faultRecorded s := by
  simp [faultRecorded, hq, hf]

theorem ne_faulted_of_running {s : State} (h : s.seq.running = true) : s.seq ≠ .faulted := by
  intro hq
  simp [hq, Seq.running] at h

theorem Steps.faultRecorded_next {s t : State} (h : Steps s t) (hs : faultRecorded s) : faultRecorded t := by
  cases h with
  | abort ha =>
    have hq : s.seq ≠ .faulted := by
      intro hq
      simp [abortNow_of_faulted hq] at ha
    have hf := fault_of_not_faulted hs hq
    exact faultRecorded_of_not_faulted (by simp) hf
  | fault => simp [faultRecorded]
  | event he =>
    have hf := fault_of_not_faulted hs (ne_faulted_of_running he.seq_running.1)
    exact faultRecorded_of_not_faulted (by simpa using he.next_ne_faulted) (by simpa using hf)
  | write hw =>
    have hf := fault_of_not_faulted hs (ne_faulted_of_running hw.seq_running)
    exact faultRecorded_of_not_faulted (by simpa using hw.next_ne_faulted) (by simpa [writeRegs_fault] using hf)
  | accept hq =>
    have hf := fault_of_not_faulted hs (by simp [hq])
    exact faultRecorded_of_not_faulted (by simp) hf
  | stay => exact hs

/-! ### runs -/

theorem runsTo_zero (s : State) : runsTo 0 s s := rfl

theorem runsTo_succ {k : Nat} {s u t : State} (h : step s = .next u) (hr : runsTo k u t) : runsTo (k + 1) s t := by
  rw [runsTo, run_succ h]
  exact hr

/-- A run of `k` steps and one step more. -/
theorem runsTo_snoc {k : Nat} {s t u : State} (h : runsTo k s t) (hu : step t = .next u) : runsTo (k + 1) s u := by
  induction k generalizing s with
  | zero =>
    cases h
    exact runsTo_succ hu (runsTo_zero u)
  | succ k ih =>
    cases hs : step s with
    | next v =>
      rw [runsTo, run_succ hs] at h
      exact runsTo_succ hs (ih h)
    | fault r => simp [runsTo, Host.Core.run, core, hs] at h
    | refused r => simp [runsTo, Host.Core.run, core, hs] at h

theorem step_of_faulted {s : State} (h : s.seq = .faulted) : step s = .next s.nextPorts := by
  rw [step_of_not_running (abortNow_of_faulted h) (by simp [h, Seq.running]), idleMove_of_not_idle (by simp [h])]

/-- A run from FAULTED changes nothing but the ports (R29, R109). -/
theorem runsTo_of_faulted (k : Nat) {s : State} (h : s.seq = .faulted) :
    ∃ t, runsTo k s t ∧ t.seq = .faulted ∧ t.fault = s.fault ∧ t.trace = s.trace := by
  induction k generalizing s with
  | zero => exact ⟨s, runsTo_zero s, h, rfl, rfl⟩
  | succ k ih =>
    obtain ⟨t, hr, hq, hf, ht⟩ := ih (s := s.nextPorts) h
    exact ⟨t, runsTo_succ (step_of_faulted h) hr, hq, hf, ht⟩

/-- Settles O45: FAULT and FAULTED are written together, and FAULTED has no move. -/
theorem faultIsNeverCleared : Obligations.FaultIsNeverCleared :=
  ⟨fun _ _ hs hstep => (steps_of_step hstep).faultRecorded_next hs, fun k _ h => runsTo_of_faulted k h⟩

/-! ### the step and reset -/

/-- Settles O9: the instruction IDX decodes to is the one a running step executes. -/
theorem stepRunsDecodedInstruction : Obligations.StepRunsDecodedInstruction := by
  intro s i ha hr hd
  rw [step_of_running (abortNow_eq_false ha) hr, exec_eq_act_move hd]

/-- Settles O2, predicate by predicate. -/
theorem resetMeetsTheInvariants : Obligations.ResetMeetsTheInvariants := by
  refine ⟨⟨fun p => ?_, fun ch => ?_⟩, rfl, ?_, trivial, trivial, ?_⟩
  · cases p <;> exact ⟨rfl, rfl⟩
  · cases ch <;> rfl
  · simp [faultRecorded, State.reset]
  · simp [registersFit, State.reset, Params.maxBitCount]

/-! ### the registers of a frame (R22, R75, R92, R93) -/

/-- What the registers hold at a position of a frame's SENDFIELD: the frame's own, as `frameRegisters` says. -/
def frameRegistersAt (s : State) (ch : Channel) (f : Frame) : SfPos → Prop
  | .init _ o => s.curCh = ch ∧ s.curN = frameN f ∧ o = frameOperands s.entry ch f
  | .comp o => s.curCh = ch ∧ s.curN = frameN f ∧ o = frameOperands s.entry ch f
  | .setBit i =>
    s.curCh = ch ∧ s.curN = frameN f ∧ i < s.curN ∧ s.comp = composite (frameRaw (entryOf s.entry ch) f) (frameCb f)
  | .bit _ =>
    s.curCh = ch ∧ s.curN = frameN f ∧ s.bitpos < s.curN ∧ s.comp = composite (frameRaw (entryOf s.entry ch) f) (frameCb f)
  | .latch _ => s.curCh = ch ∧ s.curN = frameN f ∧ s.comp = composite (frameRaw (entryOf s.entry ch) f) (frameCb f)
  | .low _ => s.curCh = ch ∧ s.curN = frameN f ∧ s.comp = composite (frameRaw (entryOf s.entry ch) f) (frameCb f)

theorem frameRegisters_of_sf {s : State} {pos : SfPos} {ch : Channel} {f : Frame} (hq : s.seq = .sf pos ch f) :
    frameRegisters s ↔ frameRegistersAt s ch f pos := by
  cases pos <;> simp [frameRegisters, hq, frameRegistersAt]

theorem frameRegisters_of_not_sf {s : State} (hq : ∀ pos ch f, s.seq ≠ .sf pos ch f) : frameRegisters s := by
  unfold frameRegisters
  split <;> simp_all

theorem frameRegisters_goto_sf (s : State) (pos : SfPos) (ch : Channel) (f : Frame) :
    frameRegisters (s.goto (.sf pos ch f)).nextPorts ↔ frameRegistersAt s ch f pos := by
  cases pos <;> rfl

/-- The bit loop is entered below the bit count it is given, and left for the latch pulse (R93). -/
theorem frameRegistersAt_bitLoop {s : State} {ch : Channel} {f : Frame} {m : Nat} (hch : s.curCh = ch)
    (hn : s.curN = frameN f) (hm : m ≤ s.curN)
    (hc : s.comp = composite (frameRaw (entryOf s.entry ch) f) (frameCb f)) : frameRegistersAt s ch f (bitLoop m) := by
  cases m with
  | zero => exact ⟨hch, hn, hc⟩
  | succ i => exact ⟨hch, hn, hm, hc⟩

theorem afterChannel_ne_sf (c : Channel) (pos : SfPos) (ch : Channel) (f : Frame) : afterChannel c ≠ .sf pos ch f := by
  cases c <;> simp [afterChannel]

theorem sfReturn_ne_sf (c : Channel) (g : Frame) (pos : SfPos) (ch : Channel) (f : Frame) :
    sfReturn c g ≠ .sf pos ch f := by
  cases g with
  | ref16 => simp [sfReturn]
  | cnt19 => exact afterChannel_ne_sf c pos ch f

theorem afterResolve_ne_sf (m : OperatingMode) (pos : SfPos) (ch : Channel) (f : Frame) : afterResolve m ≠ .sf pos ch f := by
  cases m <;> simp [afterResolve]

/-- An event changes no register, so what the registers hold at a position does not depend on it. -/
theorem frameRegistersAt_perform (e : Event) (s : State) (ch : Channel) (f : Frame) (pos : SfPos) :
    frameRegistersAt (perform e s) ch f pos ↔ frameRegistersAt s ch f pos := by
  cases pos <;> simp [frameRegistersAt]

/-- SENDFIELD's events lead from a position to one where the registers hold what that one says. -/
theorem Emits.frameRegistersAt_next {P : Params} {x : Word} {s : State} {e : Event} {pos : SfPos} {ch : Channel} {f : Frame}
    (h : Emits P x s e (.sf pos ch f)) (hs : frameRegisters s) : frameRegistersAt s ch f pos := by
  generalize hn : Seq.sf pos ch f = next at h
  cases h with
  | active => cases hn
  | idle => exact absurd hn.symm (afterChannel_ne_sf _ _ _ _)
  | init hq =>
    cases hn
    obtain ⟨hch, hcn, ho⟩ := (frameRegisters_of_sf hq).1 hs
    split <;> exact ⟨hch, hcn, ho⟩
  | bit hq =>
    cases hn
    obtain ⟨hch, hcn, hb, hc⟩ := (frameRegisters_of_sf hq).1 hs
    split
    · exact frameRegistersAt_bitLoop hch hcn (Nat.le_of_lt hb) hc
    · exact ⟨hch, hcn, hb, hc⟩
  | latch hq =>
    cases hn
    obtain ⟨hch, hcn, hc⟩ := (frameRegisters_of_sf hq).1 hs
    split <;> exact ⟨hch, hcn, hc⟩
  | low hq =>
    split at hn
    · exact absurd hn.symm (sfReturn_ne_sf _ _ _ _ _)
    · cases hn
      exact (frameRegisters_of_sf hq).1 hs
  | testMode => cases hn
  | ledTest => cases hn

/-- A register write leads to a position where the registers it leaves hold what that one says. -/
theorem Writes.frameRegisters_next {P : Params} {m : OperatingMode} {x : Word} {s : State} {w : RegWrite} {q : Seq}
    (h : Writes P m x s w q) (hs : frameRegisters s) : frameRegisters ((writeRegs w s).goto q).nextPorts := by
  cases h with
  | resolve => exact frameRegisters_of_not_sf (afterResolve_ne_sf m)
  | call => exact (frameRegisters_goto_sf ..).2 ⟨rfl, rfl, rfl⟩
  | @comp o ch f hq =>
    obtain ⟨hch, hcn, rfl⟩ := (frameRegisters_of_sf hq).1 hs
    exact (frameRegisters_goto_sf ..).2 (frameRegistersAt_bitLoop hch hcn (Nat.le_refl _) rfl)
  | bitpos hq =>
    obtain ⟨hch, hcn, hb, hc⟩ := (frameRegisters_of_sf hq).1 hs
    exact (frameRegisters_goto_sf ..).2 ⟨hch, hcn, hb, hc⟩

/-- Settles O50: only SENDFIELD's events and the register writes lead into SENDFIELD. -/
theorem frameRegistersInvariant : Obligations.FrameRegistersInvariant := by
  intro s t hs hstep
  cases steps_of_step hstep with
  | abort => exact frameRegisters_of_not_sf (by simp)
  | fault => exact frameRegisters_of_not_sf (by simp)
  | @event e q he =>
    by_cases hq : ∃ pos ch f, q = .sf pos ch f
    · obtain ⟨pos, ch, f, rfl⟩ := hq
      exact (frameRegisters_goto_sf ..).2 ((frameRegistersAt_perform ..).2 (he.frameRegistersAt_next hs))
    · exact frameRegisters_of_not_sf fun pos ch f h => hq ⟨pos, ch, f, h⟩
  | write hw => exact hw.frameRegisters_next hs
  | accept => exact frameRegisters_of_not_sf (by simp)
  | stay => exact hs

/-! ### what RESOLVE wrote (R23, R62..R64) -/

/-- The positions at which `dispatchRegisters` says nothing. -/
def beforeDispatch (q : Seq) : Prop := q = .idle ∨ q = .resolve ∨ q = .aborted

theorem dispatchRegisters_iff (s : State) :
    dispatchRegisters s ↔ beforeDispatch s.seq ∨ dispatchRegisters.resolvedAs s := by
  cases hq : s.seq <;> simp [dispatchRegisters, beforeDispatch, hq]

theorem resolvedAs_of_dispatched {s : State} (hs : dispatchRegisters s) (hq : ¬ beforeDispatch s.seq) :
    dispatchRegisters.resolvedAs s :=
  ((dispatchRegisters_iff s).1 hs).resolve_left hq

theorem Emits.dispatched {P : Params} {x : Word} {s : State} {e : Event} {q : Seq} (h : Emits P x s e q) :
    ¬ beforeDispatch s.seq := by
  obtain ⟨hr, hne⟩ := h.seq_running
  rintro (hq | hq | hq)
  · simp [hq, Seq.running] at hr
  · exact hne hq
  · simp [hq, Seq.running] at hr

/-- RESOLVE writes the four registers; every other write leaves them as they are. -/
theorem Writes.resolvedAs_next {s : State} {w : RegWrite} {q : Seq}
    (h : Writes Config.params (modeOf s.idx) s.idx s w q) (hs : dispatchRegisters s) :
    dispatchRegisters.resolvedAs ((writeRegs w s).goto q).nextPorts := by
  have hkept : ¬ beforeDispatch s.seq → dispatchRegisters.resolvedAs s := resolvedAs_of_dispatched hs
  cases h with
  | resolve => exact ⟨rfl, rfl, rfl, rfl⟩
  | call hq => exact hkept (by simp [hq, beforeDispatch])
  | comp hq => exact hkept (by simp [hq, beforeDispatch])
  | bitpos hq => exact hkept (by simp [hq, beforeDispatch])

/-- Settles O51: RESOLVE writes the four registers, and only positions after it emit or write further. -/
theorem dispatchRegistersInvariant : Obligations.DispatchRegistersInvariant := by
  intro s t hs hstep
  rw [dispatchRegisters_iff]
  cases steps_of_step hstep with
  | abort => exact .inl (.inr (.inr rfl))
  | fault he => exact .inr (resolvedAs_of_dispatched hs he.dispatched :)
  | event he =>
    have hres := resolvedAs_of_dispatched hs he.dispatched
    exact .inr (by simpa [dispatchRegisters.resolvedAs] using hres)
  | write hw => exact .inr (hw.resolvedAs_next hs)
  | accept => exact .inl (.inr (.inl rfl))
  | stay => exact (dispatchRegisters_iff s).1 hs

/-! ### the widths of the registers (R22, R53, R90) -/

/-- What a position carries into BITPOS and COMP fits them. -/
def positionFits (P : Params) : Seq → Prop
  | .sf (.setBit i) _ _ => i < P.maxBitCount
  | .sf (.comp o) _ _ => o.raw < 2 ^ P.maxBitCount
  | .sf (.init _ o) _ _ => o.raw < 2 ^ P.maxBitCount
  | _ => True

theorem positionFits_iff (P : Params) (q : Seq) :
    positionFits P q ↔
      (∀ i ch f, q = .sf (.setBit i) ch f → i < P.maxBitCount) ∧
        (∀ o ch f, q = .sf (.comp o) ch f → o.raw < 2 ^ P.maxBitCount) ∧
        ∀ k o ch f, q = .sf (.init k o) ch f → o.raw < 2 ^ P.maxBitCount := by
  cases q with
  | sf pos ch f =>
    cases pos with
    | init k o => exact ⟨fun h => ⟨by simp, by simp, by rintro _ _ _ _ ⟨⟩; exact h⟩, fun ⟨_, _, h⟩ => h k o ch f rfl⟩
    | comp | setBit | bit | latch | low => simp [positionFits]
  | idle | resolve | prog | tm | led | done | aborted | faulted => simp [positionFits]

theorem registersFit_iff (P : Params) (s : State) :
    registersFit P s ↔
      s.curN ≤ P.maxBitCount ∧ s.bitpos < P.maxBitCount ∧ s.comp < 2 ^ (P.maxBitCount + 1) ∧ positionFits P s.seq := by
  rw [positionFits_iff, registersFit]

theorem positionFits_of_not_sf {P : Params} {q : Seq} (hq : ∀ pos ch f, q ≠ .sf pos ch f) : positionFits P q := by
  simp [positionFits_iff, hq]

theorem positionFits_bitLoop {P : Params} {m : Nat} {ch : Channel} {f : Frame} (hm : m ≤ P.maxBitCount) :
    positionFits P (.sf (bitLoop m) ch f) := by
  cases m with
  | zero => trivial
  | succ i => exact hm

theorem composite_eq (raw : Nat) (cb : Bool) : composite raw cb = 2 * raw + cb.toNat := by
  rw [composite, ← Nat.shiftLeft_add_eq_or_of_lt (i := 1) cb.toNat_lt, Nat.shiftLeft_eq, Nat.pow_one, Nat.mul_comm]

theorem composite_lt {raw n : Nat} (cb : Bool) (h : raw < 2 ^ n) : composite raw cb < 2 ^ (n + 1) := by
  have hcb := cb.toNat_le
  rw [composite_eq, Nat.pow_succ]
  omega

theorem frameN_le (P : Params) (f : Frame) : frameN f ≤ P.maxBitCount := by
  cases f <;> simp [frameN, Params.maxBitCount]

theorem frameRaw_lt (P : Params) (rv : RegisterValue) (f : Frame) : frameRaw rv f < 2 ^ P.maxBitCount := by
  cases f with
  | ref16 =>
    calc rv.referenceDivider.toNat < 2 ^ 16 := rv.referenceDivider.isLt
      _ ≤ 2 ^ P.maxBitCount := Nat.pow_le_pow_right (by decide) (by simp [Params.maxBitCount])
  | cnt19 =>
    calc rv.programmableCounter.toNat < 2 ^ 19 := rv.programmableCounter.isLt
      _ ≤ 2 ^ P.maxBitCount := Nat.pow_le_pow_right (by decide) (by simp [Params.maxBitCount])

theorem Emits.positionFits_next {P : Params} {x : Word} {s : State} {e : Event} {q : Seq} (h : Emits P x s e q)
    (hb : s.bitpos < P.maxBitCount) (hp : positionFits P s.seq) : positionFits P q := by
  cases h with
  | active => trivial
  | idle => exact positionFits_of_not_sf (afterChannel_ne_sf _)
  | init hq =>
    rw [hq] at hp
    split <;> exact hp
  | bit hq =>
    split
    · exact positionFits_bitLoop (Nat.le_of_lt hb)
    · trivial
  | latch => split <;> trivial
  | low =>
    split
    · exact positionFits_of_not_sf (sfReturn_ne_sf _ _)
    · trivial
  | testMode => trivial
  | ledTest => trivial

theorem Writes.registersFit_next {P : Params} {m : OperatingMode} {x : Word} {s : State} {w : RegWrite} {q : Seq}
    (h : Writes P m x s w q) (hs : registersFit P s) : registersFit P ((writeRegs w s).goto q).nextPorts := by
  obtain ⟨hn, hb, hc, hp⟩ := (registersFit_iff P s).1 hs
  rw [registersFit_iff]
  cases h with
  | resolve => exact ⟨hn, hb, hc, positionFits_of_not_sf (afterResolve_ne_sf m)⟩
  | call => exact ⟨frameN_le P _, hb, hc, frameRaw_lt P _ _⟩
  | comp hq =>
    rw [hq] at hp
    exact ⟨hn, hb, composite_lt _ hp, positionFits_bitLoop hn⟩
  | bitpos hq =>
    rw [hq] at hp
    exact ⟨hn, hp, hc, trivial⟩

/-- Settles O52, with what the positions carry (`positionFits`) as part of the invariant. -/
theorem registersKeepTheirWidths : Obligations.RegistersKeepTheirWidths := by
  intro s t hs hstep
  obtain ⟨hn, hb, hc, hp⟩ := (registersFit_iff _ s).1 hs
  rw [registersFit_iff]
  cases steps_of_step hstep with
  | abort => exact ⟨hn, hb, hc, trivial⟩
  | fault => exact ⟨hn, hb, hc, trivial⟩
  | event he => exact ⟨by simpa using hn, by simpa using hb, by simpa using hc, he.positionFits_next hb hp⟩
  | write hw => exact (registersFit_iff _ _).1 (hw.registersFit_next hs)
  | accept => exact ⟨hn, hb, hc, trivial⟩
  | stay => exact ⟨hn, hb, hc, hp⟩

/-! ### calm steps -/

theorem calm_ports {s : State} (hc : calm s) : s.ports.abort = false ∧ s.ports.fails = false := by
  cases he : s.env with
  | nil => simp [ports_of_nil he, Ports.quiet]
  | cons p r =>
    rw [ports_of_cons he]
    exact hc p (by simp [he])

theorem calm_of_env_tail {s t : State} (hc : calm s) (ht : t.env = s.env.tail) : calm t :=
  fun p hp => hc p (List.mem_of_mem_tail (ht ▸ hp))

theorem step_of_emit {s : State} {e : Event} {q : Seq} (hc : calm s) (hm : move s = .emit e q) :
    step s = .next ((perform e s).goto q).nextPorts := by
  obtain ⟨ha, hf⟩ := calm_ports hc
  have hr := (emits_of_commandAction hm).seq_running.1
  rw [step_of_running (abortNow_eq_false ha) hr, hm, act, emit_performs e q s hf, afterMove]

theorem move_sf {s : State} {pos : SfPos} {ch : Channel} {f : Frame} (hs : onSequence s) (hq : s.seq = .sf pos ch f) :
    move s = sfAction s pos ch f := by
  rw [onSequence, hq] at hs
  rw [move, commandAction_sf hq, if_pos (modeHas_sf.1 hs)]

/-! ### the last bit of a frame (R31, R93, R94) -/

/-- The position `j` steps after the data event of the last bit is next: its events, the latch pulse, step 5. -/
def lastBitPos (j : Nat) : SfPos :=
  if j < 5 then .bit (Fin.ofNat 5 j) else if j < 10 then .latch (Fin.ofNat 5 (j - 5)) else .low 0

/-- At a position of SENDFIELD, on sequence and calm, with BITPOS 0 and the level of the data line `v`. -/
structure HoldsData (v : LineLevel) (c ch : Channel) (f : Frame) (pos : SfPos) (s : State) : Prop where
  seq : s.seq = .sf pos ch f
  curCh : s.curCh = c
  bitpos : s.bitpos = 0
  onSeq : onSequence s
  quiet : calm s
  level : (s.lines.get (dataLine c)).lvl = v

theorem clkLine_ne_dataLine (c : Channel) : clkLine c ≠ dataLine c := by cases c <;> decide

theorem leLine_ne_dataLine (c : Channel) : leLine c ≠ dataLine c := by cases c <;> decide

theorem lastBitPos_cases : ∀ j < 10, 1 ≤ j →
    (∃ q : Fin 5, q ≠ 0 ∧ lastBitPos j = .bit q ∧ lastBitPos (j + 1) = if q = 4 then .latch 0 else .bit (q + 1)) ∨
      ∃ q : Fin 5, lastBitPos j = .latch q ∧ lastBitPos (j + 1) = if q = 4 then .low 0 else .latch (q + 1) := by
  decide

theorem levelStep_bitEvent (c : Channel) (b : Bool) (v : LineLevel) {q : Fin 5} (hq : q ≠ 0) :
    levelStep (dataLine c) v (bitEvent c b q) = v := by
  fin_cases q <;> simp_all [bitEvent, levelStep, clkLine_ne_dataLine]

theorem levelStep_latchEvent (c : Channel) (v : LineLevel) (q : Fin 5) :
    levelStep (dataLine c) v (latchEvent c q) = v := by
  fin_cases q <;> simp [latchEvent, levelStep, leLine_ne_dataLine]

/-- From the second event of the last bit to the end of the latch pulse, SENDFIELD emits events that leave the data line's
level. -/
theorem sfAction_lastBitPos (s : State) (ch : Channel) (f : Frame) {j : Nat} (hb : s.bitpos = 0) (h1 : 1 ≤ j)
    (h10 : j < 10) :
    ∃ e, sfAction s (lastBitPos j) ch f = .emit e (.sf (lastBitPos (j + 1)) ch f) ∧
      ∀ v, levelStep (dataLine s.curCh) v e = v := by
  obtain ⟨q, hq, hj, hnext⟩ | ⟨q, hj, hnext⟩ := lastBitPos_cases j h10 h1
  · exact ⟨bitEvent s.curCh (bitOf s.comp 0) q, by simp only [sfAction, hj, hnext, hb, bitLoop],
      fun v => levelStep_bitEvent _ _ v hq⟩
  · exact ⟨_, by simp only [sfAction, hj, hnext], fun v => levelStep_latchEvent _ v q⟩

/-- A calm step inside SENDFIELD, by its event. -/
theorem HoldsData.after_step {v w : LineLevel} {c ch : Channel} {f : Frame} {pos next : SfPos} {s : State} {e : Event}
    (h : HoldsData v c ch f pos s) (ha : sfAction s pos ch f = .emit e (.sf next ch f))
    (hw : levelStep (dataLine c) v e = w) : ∃ t, step s = .next t ∧ HoldsData w c ch f next t := by
  have hstep := step_of_emit h.quiet ((move_sf h.onSeq h.seq).trans ha)
  refine ⟨_, hstep, rfl, ?_, ?_, (steps_of_step hstep).onSequence_next h.onSeq, calm_of_env_tail h.quiet ?_, ?_⟩
  · simpa using h.curCh
  · simpa using h.bitpos
  · simp
  · simpa [perform_level, h.level] using hw

/-- `j + 1` calm steps from the data event of bit 0, the data line holds that bit (R31). -/
theorem holdsData_run {s : State} {ch : Channel} {f : Frame} (hq : s.seq = .sf (.bit 0) ch f) (hb : s.bitpos = 0)
    (hs : onSequence s) (hc : calm s) (j : Nat) (hj : j < 10) :
    ∃ t, runsTo (j + 1) s t ∧ HoldsData (levelOfBit (s.comp.testBit 0)) s.curCh ch f (lastBitPos (j + 1)) t := by
  induction j with
  | zero =>
    have h : HoldsData (s.lines.get (dataLine s.curCh)).lvl s.curCh ch f (.bit 0) s := ⟨hq, rfl, hb, hs, hc, rfl⟩
    obtain ⟨t, hstep, ht⟩ := h.after_step (e := .level (dataLine s.curCh) (s.comp.testBit 0)) (next := .bit 1)
      (by simp [sfAction, bitEvent, bitOf, hb]) (if_pos rfl)
    exact ⟨t, runsTo_succ hstep (runsTo_zero t), ht⟩
  | succ j ih =>
    obtain ⟨t, hrun, ht⟩ := ih (by omega)
    obtain ⟨e, ha, he⟩ := sfAction_lastBitPos t ch f ht.bitpos (Nat.le_add_left 1 j) hj
    obtain ⟨u, hstep, hu⟩ := ht.after_step ha (ht.curCh ▸ he _)
    exact ⟨u, runsTo_snoc hrun hstep, hu⟩

/-- Settles O28: no event of the ten steps after the data event is for the data line. -/
theorem dataLineHoldsLastBitThroughLatch : Obligations.DataLineHoldsLastBitThroughLatch := by
  intro s ch f hq hb hs hc j h1 h10
  obtain ⟨t, hrun, ht⟩ := holdsData_run hq hb hs hc (j - 1) (by omega)
  rw [Nat.sub_add_cancel h1] at hrun
  exact ⟨t, hrun, ht.level⟩

/-! ### the reset values of the registers are unobservable (R30, U7) -/

/-- The registers a position of SENDFIELD has still to read before they are written agree. -/
def agreeInSendField (s s' : State) : SfPos → Prop
  | .init _ _ => s'.curN = s.curN
  | .comp _ => s'.curN = s.curN
  | .setBit _ => s'.comp = s.comp
  | .bit _ => s'.comp = s.comp ∧ s'.bitpos = s.bitpos
  | .latch _ => True
  | .low _ => True

/-- The registers that the block may still read from a position of SEQ on, before it writes them, agree. -/
def agreeOn (s s' : State) : Seq → Prop
  | .idle => True
  | .resolve => s'.idx = s.idx
  | .prog _ _ => s'.idx = s.idx ∧ s'.selTx = s.selTx ∧ s'.selRx = s.selRx ∧ s'.entry = s.entry
  | .sf pos _ _ =>
    s'.idx = s.idx ∧ s'.selTx = s.selTx ∧ s'.selRx = s.selRx ∧ s'.entry = s.entry ∧ s'.curCh = s.curCh ∧
      agreeInSendField s s' pos
  | .tm _ => s'.idx = s.idx
  | .led _ => s'.idx = s.idx
  | .done => True
  | .aborted => True
  | .faulted => True

/-- Two states that nothing observable tells apart, now or later. -/
structure Alike (s s' : State) : Prop where
  seq : s'.seq = s.seq
  trace : s'.trace = s.trace
  lines : s'.lines = s.lines
  inds : s'.inds = s.inds
  fault : s'.fault = s.fault
  env : s'.env = s.env
  agree : agreeOn s s' s.seq

theorem Alike.ports {s s' : State} (h : Alike s s') : s'.ports = s.ports := by
  simp [State.ports, h.env]

theorem Alike.abortNow {s s' : State} (h : Alike s s') : s'.abortNow = s.abortNow := by
  simp [State.abortNow, h.ports, h.seq]

theorem agreeOn_idx {s s' : State} {q : Seq} (hr : q.running = true) (h : agreeOn s s' q) : s'.idx = s.idx := by
  cases q with
  | resolve => exact h
  | prog => exact h.1
  | sf => exact h.1
  | tm => exact h
  | led => exact h
  | idle | done | aborted | faulted => simp [Seq.running] at hr

theorem agreeOn_of_not_running {s s' : State} {q : Seq} (hr : q.running = false) : agreeOn s s' q := by
  cases q <;> simp_all [Seq.running, agreeOn]

theorem agreeInSendField_bitLoop {s s' : State} (hc : s'.comp = s.comp) (m : Nat) : agreeInSendField s s' (bitLoop m) := by
  cases m with
  | zero => trivial
  | succ i => exact hc

/-- SENDFIELD's move depends on the registers that agree alone. -/
theorem sfAction_congr {s s' : State} {pos : SfPos} (hch : s'.curCh = s.curCh) (h : agreeInSendField s s' pos)
    (ch : Channel) (f : Frame) : sfAction s' pos ch f = sfAction s pos ch f := by
  cases pos with
  | init k o => simp [sfAction, hch]
  | comp o =>
    have hn : s'.curN = s.curN := h
    simp [sfAction, hn]
  | setBit i => rfl
  | bit q =>
    obtain ⟨hc, hb⟩ := h
    simp [sfAction, hch, hc, hb]
  | latch q => simp [sfAction, hch]
  | low q => simp [sfAction, hch]

theorem selected_congr {s s' : State} (htx : s'.selTx = s.selTx) (hrx : s'.selRx = s.selRx) (ch : Channel) :
    s'.selected ch = s.selected ch := by
  cases ch with
  | tx => exact htx
  | rx => exact hrx

theorem progAction_congr (P : Params) {s s' : State} (htx : s'.selTx = s.selTx) (hrx : s'.selRx = s.selRx)
    (he : s'.entry = s.entry) (ch : Channel) (part : Part) : progAction P s' ch part = progAction P s ch part := by
  cases part <;> simp [progAction, selected_congr htx hrx, he]

/-- The move of a running command is the same in two states alike. -/
theorem Alike.move_eq {s s' : State} (h : Alike s s') (hr : s.seq.running = true) : move s' = move s := by
  have hag := h.agree
  have hx := agreeOn_idx hr hag
  have hseq := h.seq
  rw [move, move, hx]
  cases hq : s.seq with
  | resolve => rw [commandAction_resolve (hseq.trans hq), commandAction_resolve hq]
  | prog ch part =>
    rw [hq] at hag
    obtain ⟨-, htx, hrx, he⟩ := hag
    rw [commandAction_prog (hseq.trans hq), commandAction_prog hq, progAction_congr _ htx hrx he]
  | sf pos ch f =>
    rw [hq] at hag
    obtain ⟨-, -, -, -, hch, hpos⟩ := hag
    rw [commandAction_sf (hseq.trans hq), commandAction_sf hq, sfAction_congr hch hpos]
  | tm pos => rw [commandAction_tm (hseq.trans hq), commandAction_tm hq]
  | led pos => rw [commandAction_led (hseq.trans hq), commandAction_led hq]
  | idle | done | aborted | faulted => simp [hq, Seq.running] at hr

theorem agreeOn_perform (e : Event) (p q : Seq) (s s' : State) :
    agreeOn ((perform e s).goto p).nextPorts ((perform e s').goto p).nextPorts q ↔ agreeOn s s' q := by
  cases q with
  | sf pos ch f => cases pos <;> simp [agreeOn, agreeInSendField]
  | idle | resolve | prog | tm | led | done | aborted | faulted => simp [agreeOn]

theorem agreeOn_afterChannel {s s' : State} {ch c : Channel} {part : Part} (h : agreeOn s s' (.prog c part)) :
    agreeOn s s' (afterChannel ch) := by
  cases ch with
  | rx => exact h
  | tx => trivial

theorem agreeOn_sfReturn {s s' : State} {ch c : Channel} {f : Frame} {part : Part} (h : agreeOn s s' (.prog c part)) :
    agreeOn s s' (sfReturn ch f) := by
  cases f with
  | ref16 => exact h
  | cnt19 => exact agreeOn_afterChannel h

/-- Where an event leads, no register is read that was not to be read already. -/
theorem Emits.agreeOn_next {P : Params} {x : Word} {s s' : State} {e : Event} {q : Seq} (h : Emits P x s e q)
    (hag : agreeOn s s' s.seq) : agreeOn s s' q := by
  cases h with
  | active hq => rw [hq] at hag; exact hag
  | idle hq => rw [hq] at hag; exact agreeOn_afterChannel hag
  | init hq =>
    rw [hq] at hag
    split <;> exact hag
  | bit hq =>
    rw [hq] at hag
    obtain ⟨hx, htx, hrx, he, hch, hc, hb⟩ := hag
    refine ⟨hx, htx, hrx, he, hch, ?_⟩
    split
    · exact agreeInSendField_bitLoop hc _
    · exact ⟨hc, hb⟩
  | latch hq =>
    rw [hq] at hag
    split <;> exact hag
  | low hq =>
    rw [hq] at hag
    split
    · obtain ⟨hx, htx, hrx, he, -⟩ := hag
      exact agreeOn_sfReturn (c := .tx) (part := .ind) ⟨hx, htx, hrx, he⟩
    · exact hag
  | testMode hq => rw [hq] at hag; exact hag
  | ledTest hq => rw [hq] at hag; exact hag

/-- A write makes the registers that are read next agree, with those that agreed already. -/
theorem Writes.agreeOn_next {P : Params} {m : OperatingMode} {x : Word} {s s' : State} {w : RegWrite} {q : Seq}
    (h : Writes P m x s w q) (hag : agreeOn s s' s.seq) :
    agreeOn ((writeRegs w s).goto q).nextPorts ((writeRegs w s').goto q).nextPorts q := by
  cases h with
  | resolve hq =>
    rw [hq] at hag
    cases m with
    | amateur | txTuning | rxTuning | commercial => exact ⟨hag, rfl, rfl, rfl⟩
    | testMode | ledTest => exact hag
    | unused => trivial
  | call hq =>
    rw [hq] at hag
    obtain ⟨hx, htx, hrx, he⟩ := hag
    exact ⟨hx, htx, hrx, he, rfl, rfl⟩
  | comp hq =>
    rw [hq] at hag
    obtain ⟨hx, htx, hrx, he, hch, -⟩ := hag
    refine ⟨hx, htx, hrx, he, hch, ?_⟩
    apply agreeInSendField_bitLoop
    rfl
  | bitpos hq =>
    rw [hq] at hag
    obtain ⟨hx, htx, hrx, he, hch, hc⟩ := hag
    exact ⟨hx, htx, hrx, he, hch, hc, rfl⟩

theorem Alike.after_abort {s s' : State} (h : Alike s s') : Alike (takeAbort s).nextPorts (takeAbort s').nextPorts :=
  ⟨rfl, h.trace, h.lines, h.inds, h.fault, congrArg List.tail h.env, trivial⟩

theorem Alike.after_fault {s s' : State} (h : Alike s s') (e : Event) :
    Alike (takeFault e s).nextPorts (takeFault e s').nextPorts :=
  ⟨rfl, h.trace, h.lines, h.inds, by simp [h.trace], congrArg List.tail h.env, trivial⟩

theorem Alike.after_idleMove {s s' : State} (h : Alike s s') (hr : s.seq.running = false) :
    Alike (idleMove s).nextPorts (idleMove s').nextPorts := by
  have hports := h.ports
  unfold idleMove
  rw [h.seq, hports]
  split
  · exact ⟨rfl, h.trace, h.lines, h.inds, h.fault, congrArg List.tail h.env, congrArg Ports.cmdIndex hports⟩
  · exact ⟨h.seq, h.trace, h.lines, h.inds, h.fault, congrArg List.tail h.env, agreeOn_of_not_running hr⟩

theorem perform_lines_congr {s s' : State} (hl : s'.lines = s.lines) (e : Event) :
    (perform e s').lines = (perform e s).lines := by
  cases e <;> simp [perform, hl]

theorem perform_inds_congr {s s' : State} (hi : s'.inds = s.inds) (e : Event) :
    (perform e s').inds = (perform e s).inds := by
  cases e <;> simp [perform, hi]

theorem Alike.after_event {s s' : State} (h : Alike s s') (e : Event) {q : Seq} (hag : agreeOn s s' q) :
    Alike ((perform e s).goto q).nextPorts ((perform e s').goto q).nextPorts where
  seq := rfl
  trace := by simp [h.trace]
  lines := perform_lines_congr h.lines e
  inds := perform_inds_congr h.inds e
  fault := by simp [h.fault]
  env := by simp [h.env]
  agree := (agreeOn_perform e q q s s').2 hag

theorem Alike.after_write {s s' : State} (h : Alike s s') (w : RegWrite) {q : Seq}
    (hag : agreeOn ((writeRegs w s).goto q).nextPorts ((writeRegs w s').goto q).nextPorts q) :
    Alike ((writeRegs w s).goto q).nextPorts ((writeRegs w s').goto q).nextPorts where
  seq := rfl
  trace := by simp [writeRegs_trace, h.trace]
  lines := by simp [writeRegs_lines, h.lines]
  inds := by simp [writeRegs_inds, h.inds]
  fault := by simp [writeRegs_fault, h.fault]
  env := by simp [writeRegs_env, h.env]
  agree := hag

/-- Two states alike make the same move, and stay alike. -/
theorem Alike.after_move {s s' : State} (h : Alike s s') (hs : onSequence s) (hr : s.seq.running = true) :
    ∃ t t', afterMove (act (move s) s) = .next t ∧ afterMove (act (move s') s') = .next t' ∧ Alike t t' := by
  rw [h.move_eq hr]
  have hacts := move_acts hs hr
  generalize move s = a at hacts ⊢
  cases hacts with
  | @emit e q he =>
    refine ⟨_, _, rfl, rfl, ?_⟩
    rw [emit, emit, h.ports]
    split
    · exact h.after_fault e
    · exact h.after_event e (he.agreeOn_next h.agree)
  | @write w q hw => exact ⟨_, _, rfl, rfl, h.after_write w (hw.agreeOn_next h.agree)⟩

theorem Alike.after_step {s s' : State} (h : Alike s s') (hs : onSequence s) :
    ∃ t t', step s = .next t ∧ step s' = .next t' ∧ Alike t t' := by
  cases ha : s.abortNow with
  | true => exact ⟨_, _, step_of_abort ha, step_of_abort (h.abortNow.trans ha), h.after_abort⟩
  | false =>
    have ha' := h.abortNow.trans ha
    cases hr : s.seq.running with
    | true =>
      rw [step_of_running ha hr, step_of_running ha' (by rwa [h.seq])]
      exact h.after_move hs hr
    | false => exact ⟨_, _, step_of_not_running ha hr, step_of_not_running ha' (by rwa [h.seq]), h.after_idleMove hr⟩

/-- Runs from two states alike go on together. -/
theorem Alike.runs {s s' : State} (h : Alike s s') (hs : onSequence s) (k : Nat) :
    ∃ t t', runsTo k s t ∧ runsTo k s' t' ∧ Alike t t' := by
  induction k generalizing s s' with
  | zero => exact ⟨s, s', runsTo_zero s, runsTo_zero s', h⟩
  | succ k ih =>
    obtain ⟨u, u', hu, hu', halike⟩ := h.after_step hs
    obtain ⟨t, t', ht, ht', hend⟩ := ih halike ((steps_of_step hu).onSequence_next hs)
    exact ⟨t, t', runsTo_succ hu ht, runsTo_succ hu' ht', hend⟩

/-- Settles O53: idle states that agree on the outputs and the ports are alike, since IDLE reads no register. -/
theorem resetRegistersAreUnobservable : Obligations.ResetRegistersAreUnobservable := by
  intro k s s' hq hq' hl hi ht hf he
  have hr : s.seq.running = false := by rw [hq]; rfl
  have halike : Alike s s' := ⟨hq'.trans hq.symm, ht, hl, hi, hf, he, agreeOn_of_not_running hr⟩
  obtain ⟨t, t', hrun, hrun', h⟩ := halike.runs (onSequence_of_not_running hr) k
  exact ⟨t, t', hrun, hrun', h.seq, h.trace, h.lines, h.inds, h.fault⟩

end Sys2Proof.Machine

/-! Lemmas and proofs for the statements about the encoding (30_encoding.md): the table of R50, the spellings of R59, the
frames of R53..R56, and the runs that emit them. -/

namespace Sys2Proof

open Sys2Proof.Machine

/-! ### the rows of the table (R50) -/

/-- Settles O3, word by word. -/
theorem writtenWordsDecode : Obligations.WrittenWordsDecode :=
  ⟨rfl, rfl, rfl, rfl, rfl, rfl, rfl, rfl, rfl, rfl, rfl, rfl, rfl⟩

/-- Settles O5, over the 256 words. -/
theorem exactlyOneRowMatches : Obligations.ExactlyOneRowMatches := by
  unfold Obligations.ExactlyOneRowMatches
  decide

/-- The first match is the only one, so any row that matches is the one the decoder reads the word by (R60). -/
theorem decode_of_matches {r : Row} {x : Word} (hr : r ∈ rows) (hx : r.matches x = true) : decode x = .ok (r.build x) := by
  obtain ⟨a, ha⟩ := List.length_eq_one_iff.1 (exactlyOneRowMatches x)
  have hmem : r ∈ rows.filter fun r => r.matches x := List.mem_filter.2 ⟨hr, hx⟩
  have hra : r = a := by simpa [ha] using hmem
  rw [decode, ← List.head?_filter, ha, ← hra]
  rfl

/-- A mask over the fixed bits of a word keeps them and clears the free ones, as in every row of R50. -/
theorem append_and_fixedMask {m n : Nat} (p : BitVec m) (i : BitVec n) :
    (p ++ i) &&& (BitVec.allOnes m ++ 0#n) = p ++ 0#n := by
  simp [BitVec.and_append]

/-- `decode_of_matches` by the number of the row. -/
theorem decode_of_row (k : Fin 23) {x : Word} {i : Instr} (hx : x &&& (rows.get k).mask = (rows.get k).pattern)
    (hi : (rows.get k).build x = i) : decode x = .ok i :=
  hi ▸ decode_of_matches (List.get_mem rows k) (beq_iff_eq.2 hx)

/-- Settles O7: the word of an instruction matches the row of its constructor, whose free bits are the operand. -/
theorem decodeOfEncodeIsTheInstruction : Obligations.DecodeOfEncodeIsTheInstruction := by
  intro i
  cases i with
  | amateur0 i => exact decode_of_row 0 (append_and_fixedMask _ i) (congrArg _ BitVec.extractLsb'_append_eq_right)
  | amateur64 i => exact decode_of_row 1 (append_and_fixedMask _ i) (congrArg _ BitVec.extractLsb'_append_eq_right)
  | txtune80 i => exact decode_of_row 2 (append_and_fixedMask _ i) (congrArg _ BitVec.extractLsb'_append_eq_right)
  | txtune96 i => exact decode_of_row 3 (append_and_fixedMask _ i) (congrArg _ BitVec.extractLsb'_append_eq_right)
  | rxtune114 i => exact decode_of_row 6 (append_and_fixedMask _ i) (congrArg _ BitVec.extractLsb'_append_eq_right)
  | rxtune116 i => exact decode_of_row 7 (append_and_fixedMask _ i) (congrArg _ BitVec.extractLsb'_append_eq_right)
  | rxtune120 i => exact decode_of_row 8 (append_and_fixedMask _ i) (congrArg _ BitVec.extractLsb'_append_eq_right)
  | commercial128 i => exact decode_of_row 9 (append_and_fixedMask _ i) (congrArg _ BitVec.extractLsb'_append_eq_right)
  | commercial192 i => exact decode_of_row 10 (append_and_fixedMask _ i) (congrArg _ BitVec.extractLsb'_append_eq_right)
  | commercial224 i => exact decode_of_row 11 (append_and_fixedMask _ i) (congrArg _ BitVec.extractLsb'_append_eq_right)
  | unused228 i => exact decode_of_row 14 (append_and_fixedMask _ i) (congrArg _ BitVec.extractLsb'_append_eq_right)
  | unused232 i => exact decode_of_row 15 (append_and_fixedMask _ i) (congrArg _ BitVec.extractLsb'_append_eq_right)
  | testmode240 i => exact decode_of_row 16 (append_and_fixedMask _ i) (congrArg _ BitVec.extractLsb'_append_eq_right)
  | testmode244 i => exact decode_of_row 17 (append_and_fixedMask _ i) (congrArg _ BitVec.extractLsb'_append_eq_right)
  | unused246 i => exact decode_of_row 18 (append_and_fixedMask _ i) (congrArg _ BitVec.extractLsb'_append_eq_right)
  | unused248 i => exact decode_of_row 19 (append_and_fixedMask _ i) (congrArg _ BitVec.extractLsb'_append_eq_right)
  | unused252 i => exact decode_of_row 20 (append_and_fixedMask _ i) (congrArg _ BitVec.extractLsb'_append_eq_right)
  | txtune112 | rxtune113 | commercial226 | unused227 | unused254 | ledtest255 => rfl

/-- Settles O6, by the decoder's own lemmas. -/
theorem decoderAgreesWithPriorityTable : Obligations.DecoderAgreesWithPriorityTable := by
  intro x
  obtain ⟨i, hi⟩ := exists_decode x
  exact ⟨i, hi, mode_and_encode_of_decode hi⟩

/-! ### the ranges and the spellings (R48, R49, R59) -/

/-- The ranges of R48 do not overlap, so the priorities of R62 leave each mode its own range. -/
theorem inRange_iff_modeOf (m : OperatingMode) (x : Word) : m.inRange x = true ↔ modeOf x = m := by
  have hx := x.isLt
  cases m <;> simp [OperatingMode.inRange, modeOf, ite_eq_iff] <;> omega

theorem wellFormed_iff_modeOf (sp : Spelling) : sp.wellFormed = true ↔ modeOf sp.index = sp.mnemonic :=
  inRange_iff_modeOf sp.mnemonic sp.index

/-- Settles O8: a well-formed spelling has the mode of its index, and so has the instruction the index decodes to. -/
theorem assemblerRefusesExactlyIllFormedSpellings : Obligations.AssemblerRefusesExactlyIllFormedSpellings := by
  intro sp
  refine ⟨fun h => by simp [assemble, h], fun h => ?_⟩
  obtain ⟨i, hi⟩ := exists_decode sp.index
  obtain ⟨hmode, hword⟩ := mode_and_encode_of_decode hi
  refine ⟨i, by rw [assemble, if_pos h, hi], ?_⟩
  rw [Instr.spelling, hmode, hword, (wellFormed_iff_modeOf sp).1 h]

/-- The indices of each mode, as the ranges of R48 give them. -/
def modeIndices : OperatingMode → Finset Nat
  | .amateur => Finset.Ico 0 80
  | .txTuning => Finset.Ico 80 113
  | .rxTuning => Finset.Ico 113 128
  | .commercial => Finset.Ico 128 227
  | .testMode => Finset.Ico 240 246
  | .ledTest => Finset.Ico 255 256
  | .unused => Finset.Ico 227 240 ∪ Finset.Ico 246 255

theorem mem_modeIndices (m : OperatingMode) (x : Nat) :
    x ∈ modeIndices m ↔ x < 256 ∧ modeOf (BitVec.ofNat 8 x) = m := by
  rw [← inRange_iff_modeOf]
  cases m <;> simp [modeIndices, OperatingMode.inRange] <;> omega

theorem modeSize_eq_card (m : OperatingMode) :
    ((List.range 256).filter fun x => modeOf (BitVec.ofNat 8 x) == m).length = (modeIndices m).card := by
  rw [← List.toFinset_card_of_nodup (List.nodup_range.filter _)]
  congr 1
  ext x
  simp [mem_modeIndices]

/-- Settles O4, by the sizes of the ranges. -/
theorem rangesPartitionTheIndices : Obligations.RangesPartitionTheIndices := by
  simp only [Obligations.RangesPartitionTheIndices, modeSize_eq_card]
  exact ⟨rfl, rfl, rfl, rfl, rfl, rfl, rfl, rfl⟩

end Sys2Proof

namespace Sys2Proof.Machine

open Sys2Proof.Safety

/-! ### the composite and the bits of a frame (R53..R56) -/

theorem composite_eq_bit (raw : Nat) (cb : Bool) : composite raw cb = Nat.bit cb raw := by
  rw [composite_eq]
  cases cb <;> rfl

/-- Settles O34: the composite is the raw value with the control bit put below it. -/
theorem compositeBits : Obligations.CompositeBits := by
  intro raw cb
  refine ⟨composite_eq raw cb, ?_, fun k => ?_⟩
  · rw [composite_eq_bit, Nat.testBit_bit_zero]
  · rw [composite_eq_bit, Nat.testBit_bit_succ]

theorem frameBits_zero (raw : Nat) (cb : Bool) : frameBits raw cb 0 = [] := rfl

/-- A frame begins with its highest bit, and the shorter frame follows. -/
theorem frameBits_succ (raw : Nat) (cb : Bool) (n : Nat) :
    frameBits raw cb (n + 1) = bitOf (composite raw cb) n :: frameBits raw cb n := by
  simp [frameBits, List.range_succ_eq_map, Nat.sub_sub, Nat.add_comm]

/-- A frame ends with the control bit, and the low bits of the raw value precede it. -/
theorem frameBits_eq_append (raw : Nat) (cb : Bool) (n : Nat) :
    frameBits raw cb (n + 1) = (List.range n).map (fun j => raw.testBit (n - 1 - j)) ++ [cb] := by
  obtain ⟨-, hzero, hsucc⟩ := compositeBits raw cb
  induction n with
  | zero => rw [frameBits_succ, bitOf, hzero]; rfl
  | succ n ih =>
    rw [frameBits_succ, ih, bitOf, hsucc]
    simp [List.range_succ_eq_map, Nat.sub_sub, Nat.add_comm]

/-- Settles O35: the bits position by position, and the frame from its end. -/
theorem frameSendsTheLowBits : Obligations.FrameSendsTheLowBits := by
  intro raw cb
  refine ⟨fun n => ⟨?_, fun j hj => ?_⟩, frameBits_zero raw cb, frameBits_eq_append raw cb⟩
  · simp [frameBits]
  · simp [frameBits, bitOf, hj]

/-- Settles O36: both frames are one bit shorter than their field and the control bit together. -/
theorem fieldFramesDropTheirTopBit : Obligations.FieldFramesDropTheirTopBit :=
  fun rv => ⟨frameBits_eq_append rv.referenceDivider.toNat true 15,
    frameBits_eq_append rv.programmableCounter.toNat false 18⟩

/-! ### calm runs by the events they emit -/

theorem runsTo_succ_iff {k : Nat} {s t : State} : runsTo (k + 1) s t ↔ ∃ u, step s = .next u ∧ runsTo k u t := by
  constructor
  · intro h
    cases hs : step s with
    | next u => exact ⟨u, rfl, by rwa [runsTo, run_succ hs] at h⟩
    | fault r => simp [runsTo, Host.Core.run, core, hs] at h
    | refused r => simp [runsTo, Host.Core.run, core, hs] at h
  · rintro ⟨u, hu, hr⟩
    exact runsTo_succ hu hr

theorem runsTo_add {k m : Nat} {s t u : State} (h : runsTo k s t) (h' : runsTo m t u) : runsTo (m + k) s u := by
  induction k generalizing s with
  | zero =>
    cases h
    exact h'
  | succ k ih =>
    obtain ⟨v, hv, hr⟩ := runsTo_succ_iff.1 h
    exact runsTo_succ hv (ih hr)

/-- A calm run of `k` steps inside PROGRAM, SENDFIELD or a diagnostic run that emits the events `l`: the outputs are what `l`
makes of them (R26..R28), and the registers RESOLVE wrote are kept (R23). -/
structure RunsEmitting (k : Nat) (l : List Event) (s t : State) : Prop where
  run : runsTo k s t
  onSeq : onSequence t
  quiet : calm t
  trace : t.trace = s.trace ++ l
  level (p : Line) : (t.lines.get p).lvl = l.foldl (levelStep p) (s.lines.get p).lvl
  dir (p : Line) : (t.lines.get p).dir = l.foldl (dirStep p) (s.lines.get p).dir
  ind (ch : Channel) : t.inds.get ch = l.foldl (indStep ch) (s.inds.get ch)
  idx : t.idx = s.idx
  mode : t.mode = s.mode
  selTx : t.selTx = s.selTx
  selRx : t.selRx = s.selRx
  entry : t.entry = s.entry
  fault : t.fault = s.fault

theorem RunsEmitting.refl {s : State} (hs : onSequence s) (hc : calm s) : RunsEmitting 0 [] s s :=
  ⟨runsTo_zero s, hs, hc, by simp, fun _ => rfl, fun _ => rfl, fun _ => rfl, rfl, rfl, rfl, rfl, rfl, rfl⟩

theorem RunsEmitting.trans {k m : Nat} {l l' : List Event} {s t u : State} (h : RunsEmitting k l s t)
    (h' : RunsEmitting m l' t u) : RunsEmitting (m + k) (l ++ l') s u where
  run := runsTo_add h.run h'.run
  onSeq := h'.onSeq
  quiet := h'.quiet
  trace := by rw [h'.trace, h.trace, List.append_assoc]
  level p := by rw [h'.level, h.level, List.foldl_append]
  dir p := by rw [h'.dir, h.dir, List.foldl_append]
  ind ch := by rw [h'.ind, h.ind, List.foldl_append]
  idx := h'.idx.trans h.idx
  mode := h'.mode.trans h.mode
  selTx := h'.selTx.trans h.selTx
  selRx := h'.selRx.trans h.selRx
  entry := h'.entry.trans h.entry
  fault := h'.fault.trans h.fault

theorem runsEmitting_of_emit {s : State} {e : Event} {q : Seq} (hs : onSequence s) (hc : calm s)
    (hm : move s = .emit e q) : RunsEmitting 1 [e] s ((perform e s).goto q).nextPorts where
  run := runsTo_succ (step_of_emit hc hm) (runsTo_zero _)
  onSeq := (steps_of_step (step_of_emit hc hm)).onSequence_next hs
  quiet := calm_of_env_tail hc (by simp)
  trace := by simp
  level p := by simp [perform_level]
  dir p := by simp [perform_dir]
  ind ch := by simp [perform_ind]
  idx := by simp
  mode := by simp
  selTx := by simp
  selRx := by simp
  entry := by simp
  fault := by simp

theorem step_of_write {s : State} {w : RegWrite} {q : Seq} (hc : calm s) (hm : move s = .write w q) :
    step s = .next ((writeRegs w s).goto q).nextPorts := by
  have hr := (writes_of_commandAction hm).seq_running
  rw [step_of_running (abortNow_eq_false (calm_ports hc).1) hr, hm, act, afterMove]

/-- A write inside PROGRAM or SENDFIELD emits nothing and keeps what RESOLVE wrote. -/
theorem runsEmitting_of_write {s : State} {w : RegWrite} {q : Seq} (hs : onSequence s) (hc : calm s)
    (hw : ∀ m tx rx e, w ≠ .resolve m tx rx e) (hm : move s = .write w q) :
    RunsEmitting 1 [] s ((writeRegs w s).goto q).nextPorts := by
  have hstep := step_of_write hc hm
  have hon := (steps_of_step hstep).onSequence_next hs
  have hcalm : calm ((writeRegs w s).goto q).nextPorts := calm_of_env_tail hc (by simp [writeRegs_env])
  have hrun := runsTo_succ hstep (runsTo_zero _)
  cases w with
  | resolve m tx rx e => exact absurd rfl (hw m tx rx e)
  | frame | comp | bitpos =>
    exact ⟨hrun, hon, hcalm, by simp, fun _ => rfl, fun _ => rfl, fun _ => rfl, rfl, rfl, rfl, rfl, rfl, rfl⟩

/-- The registers SENDFIELD reads are the same; its events keep them. -/
structure SameCall (s t : State) : Prop where
  curCh : t.curCh = s.curCh
  curN : t.curN = s.curN
  comp : t.comp = s.comp
  bitpos : t.bitpos = s.bitpos

theorem SameCall.refl (s : State) : SameCall s s := ⟨rfl, rfl, rfl, rfl⟩

theorem SameCall.after_emit {s t : State} (h : SameCall s t) (e : Event) (q : Seq) :
    SameCall s ((perform e t).goto q).nextPorts :=
  ⟨by simp [h.curCh], by simp [h.curN], by simp [h.comp], by simp [h.bitpos]⟩

theorem succ_add_one_of_ne_last {n : Nat} {q : Fin (n + 1)} (hq : q ≠ Fin.last n) : (q + 1).succ = q.succ + 1 := by
  obtain ⟨p, rfl⟩ := Fin.exists_castSucc_eq.2 hq
  rw [Fin.coeSucc_eq_succ, Fin.succ_castSucc, Fin.coeSucc_eq_succ]

/-- Positions that emit one event each, the next after the other, emit them all and lead where the last one leads. -/
theorem exists_run_of_chain {n : Nat} (pos : Fin (n + 1) → Seq) (ev : Fin (n + 1) → Event) (next : Seq) {s u : State}
    (hmove : ∀ v q, SameCall s v → onSequence v → v.seq = pos q →
      move v = .emit (ev q) (if q = Fin.last n then next else pos (q + 1)))
    (hk : SameCall s u) (hs : onSequence u) (hc : calm u) (hq : u.seq = pos 0) :
    ∃ t, RunsEmitting (n + 1) (List.ofFn ev) u t ∧ SameCall s t ∧ t.seq = next := by
  induction n generalizing u with
  | zero =>
    have hm : move u = .emit (ev 0) next := hmove u 0 hk hs hq
    exact ⟨_, runsEmitting_of_emit hs hc hm, hk.after_emit _ _, rfl⟩
  | succ n ih =>
    have hm : move u = .emit (ev 0) (pos 1) := by simpa [Fin.ext_iff] using hmove u 0 hk hs hq
    have hfirst := runsEmitting_of_emit hs hc hm
    obtain ⟨t, hrun, hkt, hnext⟩ := ih (fun q => pos q.succ) (fun q => ev q.succ)
      (fun v q hkv hv hvq => by
        have h := hmove v q.succ hkv hv hvq
        by_cases hlast : q = Fin.last n
        · simpa [hlast] using h
        · rw [if_neg (mt Fin.succ_eq_last_succ.1 hlast), ← succ_add_one_of_ne_last hlast] at h
          rw [if_neg hlast, h]) (hk.after_emit _ _) hfirst.onSeq hfirst.quiet rfl
    exact ⟨t, by simpa [List.ofFn_succ] using hfirst.trans hrun, hkt, hnext⟩

/-! ### SENDFIELD (R91..R96) -/

/-- Step 1 emits its six events and leads to step 2 (R91). -/
theorem sendField_init {s : State} {o : SfOperands} {ch : Channel} {f : Frame} (hq : s.seq = .sf (.init 0 o) ch f)
    (hs : onSequence s) (hc : calm s) :
    ∃ t, RunsEmitting 6 (initEvents s.curCh) s t ∧ SameCall s t ∧ t.seq = .sf (.comp o) ch f :=
  exists_run_of_chain (fun k => .sf (.init k o) ch f) (initEvent s.curCh) _
    (fun v k hk hv hvq => by rw [move_sf hv hvq, sfAction, hk.curCh, apply_ite (Seq.sf · ch f)]; rfl)
    (SameCall.refl s) hs hc hq

/-- Step 4 emits the latch pulse and leads to step 5 (R94). -/
theorem sendField_latch {s : State} {ch : Channel} {f : Frame} (hq : s.seq = .sf (.latch 0) ch f)
    (hs : onSequence s) (hc : calm s) :
    ∃ t, RunsEmitting 5 (latchEvents s.curCh) s t ∧ SameCall s t ∧ t.seq = .sf (.low 0) ch f :=
  exists_run_of_chain (fun k => .sf (.latch k) ch f) (latchEvent s.curCh) _
    (fun v k hk hv hvq => by rw [move_sf hv hvq, sfAction, hk.curCh, apply_ite (Seq.sf · ch f)]; rfl)
    (SameCall.refl s) hs hc hq

/-- Step 5 returns the lines to low, and SENDFIELD returns (R95). -/
theorem sendField_low {s : State} {ch : Channel} {f : Frame} (hq : s.seq = .sf (.low 0) ch f)
    (hs : onSequence s) (hc : calm s) :
    ∃ t, RunsEmitting 4 (lowEvents s.curCh) s t ∧ SameCall s t ∧ t.seq = sfReturn ch f :=
  exists_run_of_chain (fun k => .sf (.low k) ch f) (lowEvent s.curCh) _
    (fun v k hk hv hvq => by rw [move_sf hv hvq, sfAction, hk.curCh]; rfl) (SameCall.refl s) hs hc hq

/-- The five events of the bit at BITPOS, and the loop test (R93). -/
theorem sendField_bitEvents {s : State} {ch : Channel} {f : Frame} (hq : s.seq = .sf (.bit 0) ch f)
    (hs : onSequence s) (hc : calm s) :
    ∃ t, RunsEmitting 5 (bitEvents s.curCh (bitOf s.comp s.bitpos)) s t ∧ SameCall s t ∧
      t.seq = .sf (bitLoop s.bitpos) ch f :=
  exists_run_of_chain (fun k => .sf (.bit k) ch f) (bitEvent s.curCh (bitOf s.comp s.bitpos)) _
    (fun v k hk hv hvq => by
      rw [move_sf hv hvq, sfAction, hk.curCh, hk.comp, hk.bitpos, apply_ite (Seq.sf · ch f)]; rfl)
    (SameCall.refl s) hs hc hq

/-- One turn of the bit loop: BITPOS is written, then the bit is sent. -/
theorem sendField_bit {s : State} {i : Nat} {ch : Channel} {f : Frame} (hq : s.seq = .sf (.setBit i) ch f)
    (hs : onSequence s) (hc : calm s) :
    ∃ t, RunsEmitting 6 (bitEvents s.curCh (bitOf s.comp i)) s t ∧ t.curCh = s.curCh ∧ t.comp = s.comp ∧
      t.seq = .sf (bitLoop i) ch f := by
  have hm : move s = .write (.bitpos i) (.sf (.bit 0) ch f) := by rw [move_sf hs hq, sfAction]
  have hset := runsEmitting_of_write hs hc (by simp) hm
  obtain ⟨t, hrun, hk, hnext⟩ := sendField_bitEvents rfl hset.onSeq hset.quiet
  exact ⟨t, hset.trans hrun, hk.curCh, hk.comp, hnext⟩

/-- The bit loop sends the bits of the frame, the highest first, and ends at step 4. -/
theorem sendField_bits {raw : Nat} {cb : Bool} (m : Nat) {s : State} {ch : Channel} {f : Frame}
    (hq : s.seq = .sf (bitLoop m) ch f) (hcomp : s.comp = composite raw cb) (hs : onSequence s) (hc : calm s) :
    ∃ t, RunsEmitting (6 * m) ((frameBits raw cb m).flatMap (bitEvents s.curCh)) s t ∧ t.curCh = s.curCh ∧
      t.comp = s.comp ∧ t.seq = .sf (.latch 0) ch f := by
  induction m generalizing s with
  | zero => exact ⟨s, .refl hs hc, rfl, rfl, hq⟩
  | succ m ih =>
    obtain ⟨u, hbit, hch, hu, hnext⟩ := sendField_bit hq hs hc
    obtain ⟨t, hrest, hch', ht, hend⟩ := ih hnext (hu.trans hcomp) hbit.onSeq hbit.quiet
    rw [hch] at hrest
    refine ⟨t, ?_, hch'.trans hch, ht.trans hu, hend⟩
    rw [frameBits_succ, List.flatMap_cons, ← hcomp]
    exact hbit.trans hrest

/-- A call of SENDFIELD emits its numbered list and returns, with COMP holding the composite (R96). -/
theorem sendField_run {s : State} {o : SfOperands} {ch : Channel} {f : Frame} (hq : s.seq = .sf (.init 0 o) ch f)
    (hs : onSequence s) (hc : calm s) :
    ∃ t, RunsEmitting (6 * s.curN + 16) (sendFieldEvents s.curCh o.raw o.cb s.curN) s t ∧ t.curCh = s.curCh ∧
      t.comp = composite o.raw o.cb ∧ t.seq = sfReturn ch f := by
  obtain ⟨a, hinit, hka, hqa⟩ := sendField_init hq hs hc
  have hm : move a = .write (.comp (composite o.raw o.cb)) (.sf (bitLoop s.curN) ch f) := by
    rw [move_sf hinit.onSeq hqa, sfAction, hka.curN]
  have hcomp := runsEmitting_of_write hinit.onSeq hinit.quiet (by simp) hm
  obtain ⟨b, hbits, hchb, hb, hqb⟩ := sendField_bits s.curN rfl rfl hcomp.onSeq hcomp.quiet
  obtain ⟨c, hlatch, hkc, hqc⟩ := sendField_latch hqb hbits.onSeq hbits.quiet
  obtain ⟨d, hlow, hkd, hqd⟩ := sendField_low hqc hlatch.onSeq hlatch.quiet
  have hch : b.curCh = s.curCh := hchb.trans hka.curCh
  refine ⟨d, ?_, hkd.curCh.trans (hkc.curCh.trans hch), hkd.comp.trans (hkc.comp.trans hb), hqd⟩
  have hsteps : 6 * s.curN + 16 = 4 + (5 + (6 * s.curN + (1 + 6))) := by omega
  have hevents : sendFieldEvents s.curCh o.raw o.cb s.curN =
      initEvents s.curCh ++ [] ++ (frameBits o.raw o.cb s.curN).flatMap (bitEvents a.curCh) ++ latchEvents b.curCh ++
        lowEvents c.curCh := by
    rw [hkc.curCh, hch, hka.curCh, List.append_nil, sendFieldEvents]
  rw [hsteps, hevents]
  exact (((hinit.trans hcomp).trans hbits).trans hlatch).trans hlow

/-! ### a frame and PROGCH (R59, R73, R75) -/

theorem move_prog {s : State} {ch : Channel} {part : Part} (hs : onSequence s) (hq : s.seq = .prog ch part) :
    move s = progAction Config.params s ch part := by
  rw [onSequence, hq] at hs
  rw [move, commandAction_prog hq, if_pos (modeHas_prog.1 hs)]

theorem progAction_framePart (P : Params) (s : State) (ch : Channel) (f : Frame) :
    progAction P s ch (framePart f) = .write (.frame ch (frameN f)) (.sf (.init 0 (frameOperands s.entry ch f)) ch f) := by
  rw [← callSendField_frame P s.entry ch f]
  cases f <;> rfl

/-- PROGRAM's step for a frame calls SENDFIELD with the frame's operands, and SENDFIELD emits the frame (R75, R101, R102). -/
theorem frame_run {s : State} {ch : Channel} {f : Frame} (hq : s.seq = .prog ch (framePart f)) (hs : onSequence s)
    (hc : calm s) :
    ∃ t, RunsEmitting (6 * frameN f + 17) (frameEvents ch (entryOf s.entry ch) f) s t ∧ t.seq = sfReturn ch f := by
  have hcall := runsEmitting_of_write hs hc (by simp) ((move_prog hs hq).trans (progAction_framePart _ s ch f))
  obtain ⟨t, hrun, -, -, hnext⟩ := sendField_run rfl hcall.onSeq hcall.quiet
  exact ⟨t, hcall.trans hrun, hnext⟩

/-- From the indicator event of a selected channel to the end of its step (R73, R75). -/
theorem progCh_run {s : State} {ch : Channel} (hq : s.seq = .prog ch .ind) (hsel : s.selected ch = true)
    (hs : onSequence s) (hc : calm s) :
    ∃ t, RunsEmitting 245 (channelEvents Config.params ch (entryOf s.entry ch) true) s t ∧ t.seq = afterChannel ch := by
  have hm : move s = .emit (.indicator ch Config.indActive) (.prog ch .ref) := by
    rw [move_prog hs hq, progAction, if_pos hsel]
    rfl
  have hind := runsEmitting_of_emit hs hc hm
  obtain ⟨u, href, hqu⟩ := frame_run (f := .ref16) rfl hind.onSeq hind.quiet
  obtain ⟨t, hcnt, hqt⟩ := frame_run (f := .cnt19) hqu href.onSeq href.quiet
  rw [href.entry, hind.entry] at hcnt
  rw [hind.entry] at href
  exact ⟨t, (hind.trans href).trans hcnt, hqt⟩

theorem callEvents_frameCall (e : TableEntry) (ch : Channel) (f : Frame) :
    callEvents (frameCall e ch f) = frameEvents ch (entryOf e ch) f := by
  cases f <;> rfl

/-- R59's pseudo-operation emits what PROGRAM's step for a selected channel does (log 19). -/
theorem operationEvents_progCh (P : Params) (e : TableEntry) (ch : Channel) :
    operationEvents P e (.progCh ch) = channelEvents P ch (entryOf e ch) true := by
  simp [operationEvents, operationExpansion, progChExpansion, Piece.events, callEvents_frameCall, channelEvents,
    progChEvents]

/-- Settles O26: PROGRAM's step for a selected channel is the indicator event and the runs of its two frames. -/
theorem progChRunsItsExpansion : Obligations.ProgChRunsItsExpansion := by
  intro s ch hq hsel hs hc
  obtain ⟨t, hrun, hnext⟩ := progCh_run hq hsel hs hc
  rw [← operationEvents_progCh] at hrun
  refine ⟨t, hrun.run, hrun.trace, ?_, ?_⟩
  · rw [operationEvents_progCh]
    rfl
  · cases ch <;> exact hnext

end Sys2Proof.Machine

/-! Lemmas and proofs for the statements about the resolver (40_mode_resolver.md): the acceptance of a dispatch, RESOLVE, and
the programming commands run to DONE. -/

namespace Sys2Proof.Machine

open Sys2Proof.Safety

/-! ### the acceptance of a dispatch (R61) -/

/-- A loaded word meets no ABORT: where one stands, a quiet boundary is put before it (log 4). -/
theorem withFetchWord_abort (s : State) (nbits w : Nat) : (s.withFetchWord nbits w).ports.abort = false := by
  show ((if s.ports.abort then Ports.quiet :: s.env else s.env).headD Ports.quiet).abort = false
  split
  next => rfl
  next ha => exact Bool.eq_false_iff.2 ha

/-- Settles O10: the loaded word stands in IDX at RESOLVE. -/
theorem loadedWordRunsNext : Obligations.LoadedWordRunsNext := by
  intro s w i hw hd
  have hidx : (s.withFetchWord 8 w).idx = BitVec.ofNat 8 w := congrArg (BitVec.ofNat 8) (Nat.mod_eq_of_lt hw)
  exact stepRunsDecodedInstruction _ i (withFetchWord_abort s 8 w) rfl (hidx ▸ hd)

/-- IDLE is not entered by an event. -/
theorem Emits.next_ne_idle {P : Params} {x : Word} {s : State} {e : Event} {q : Seq} (h : Emits P x s e q) : q ≠ .idle := by
  cases h with
  | @idle ch => cases ch <;> simp [afterChannel]
  | @low q ch f => cases ch <;> cases f <;> split <;> simp [sfReturn, afterChannel]
  | active | init | bit | latch | testMode | ledTest => simp

/-- IDLE is not entered by a register write. -/
theorem Writes.next_ne_idle {P : Params} {m : OperatingMode} {x : Word} {s : State} {w : RegWrite} {q : Seq}
    (h : Writes P m x s w q) : q ≠ .idle := by
  cases h with
  | resolve => cases m <;> simp [afterResolve]
  | call | comp | bitpos => simp

theorem Steps.next_ne_idle {s t : State} (h : Steps s t) (hs : s.seq ≠ .idle) : t.seq ≠ .idle := by
  cases h with
  | abort => simp
  | fault => simp
  | event he => simpa using he.next_ne_idle
  | write hw => simpa using hw.next_ne_idle
  | accept hq => exact absurd hq hs
  | stay => exact hs

/-- No command reads the ports. -/
theorem move_withEnv (s : State) (env : List Ports) : move { s with env := env } = move s := rfl

/-- An action reads of the ports only whether the collaborator fails (R104). -/
theorem afterMove_act_withEnv (a : Action) (s : State) {p p' : Ports} (rest : List Ports) (hf : p'.fails = p.fails) :
    afterMove (act a { s with env := p' :: rest }) = afterMove (act a { s with env := p :: rest }) := by
  cases a with
  | emit e q =>
    cases h : p.fails with
    | true => simp [act, afterMove, emit, State.ports, hf, h, takeFault, State.nextPorts]
    | false =>
      rw [h] at hf
      have hp (r : Ports) (hr : r.fails = false) : emit e q { s with env := r :: rest } =
          (perform e { s with env := r :: rest }).goto q := emit_performs e q _ hr
      rw [act, act, hp p' hf, hp p h]
      cases e <;> rfl
  | write w q => cases w <;> rfl
  | stay => rfl
  | off => rfl
  | refuse r => rfl

/-- Outside IDLE a step reads of the ports only ABORT and whether the collaborator fails (R61, R104, R106). -/
theorem step_congr_ports {s : State} (hs : s.seq ≠ .idle) {p p' : Ports} (rest : List Ports) (ha : p'.abort = p.abort)
    (hf : p'.fails = p.fails) : step { s with env := p' :: rest } = step { s with env := p :: rest } := by
  have hab : State.abortNow { s with env := p' :: rest } = State.abortNow { s with env := p :: rest } := by
    simp [State.abortNow, State.ports, ha]
  cases h : State.abortNow { s with env := p :: rest } with
  | true =>
    rw [step_of_abort h, step_of_abort (hab.trans h)]
    rfl
  | false =>
    cases hr : s.seq.running with
    | true =>
      rw [step_of_running h hr, step_of_running (hab.trans h) hr, move_withEnv, move_withEnv]
      exact afterMove_act_withEnv _ s rest hf
    | false =>
      have hstay (env : List Ports) : idleMove { s with env := env } = { s with env := env } := idleMove_of_not_idle hs
      rw [step_of_not_running h hr, step_of_not_running (hab.trans h) hr, hstay, hstay]
      rfl

theorem step_of_idle {s : State} (hq : s.seq = .idle) (ha : s.ports.abort = false) :
    step s = .next (if s.ports.cmdStart then accept s else s).nextPorts := by
  rw [step_of_not_running (abortNow_eq_false ha) (by rw [hq]; rfl), idleMove, hq]
  rfl

/-- Settles O11: IDLE alone reads CMD_START and CMD_INDEX, and nothing leads back to it. -/
theorem dispatchAcceptedOnlyInIdle : Obligations.DispatchAcceptedOnlyInIdle := by
  refine ⟨fun s hq ha hstart => ?_, fun s hq ha hstart => ?_, fun s p rest c x hs => ?_, fun s t hs hstep => ?_⟩
  · rw [step_of_idle hq ha, if_pos hstart]
    rfl
  · rw [step_of_idle hq ha, if_neg (by simp [hstart])]
    rfl
  · exact step_congr_ports hs rest rfl rfl
  · exact (steps_of_step hstep).next_ne_idle hs

/-! ### RESOLVE (R62..R65) -/

/-- `commandAction_resolve` with the next position by its name. -/
theorem commandAction_afterResolve {P : Params} {m : OperatingMode} {x : Word} {s : State} (hq : s.seq = .resolve) :
    commandAction P m x s = .write (resolveWrite P m x) (afterResolve m) := by
  rw [commandAction_resolve hq]
  cases m <;> rfl

/-- Settles O15: RESOLVE's write holds the mode, its flags and the entry, and the mode gives the next position. -/
theorem resolveCompletesForEveryInstruction : Obligations.ResolveCompletesForEveryInstruction := by
  intro i s hq
  refine ⟨selTxOf i.mode, selRxOf i.mode, afterResolve i.mode, ?_, ?_⟩
  · rw [exec_eq_act, commandAction_afterResolve hq]
    rfl
  · cases i.mode <;> exact ⟨rfl, rfl, rfl⟩

/-- The state RESOLVE's step leads to where no ABORT arrives. -/
def resolved (s : State) : State :=
  ((writeRegs (resolveWrite Config.params (modeOf s.idx) s.idx) s).goto (afterResolve (modeOf s.idx))).nextPorts

theorem step_of_resolve {s : State} (hq : s.seq = .resolve) (ha : s.ports.abort = false) : step s = .next (resolved s) := by
  rw [step_of_running (abortNow_eq_false ha) (by rw [hq]; rfl), move, commandAction_afterResolve hq]
  rfl

theorem onSequence_resolved (s : State) : onSequence (resolved s) := by
  show modeHas (modeOf s.idx) (afterResolve (modeOf s.idx)) = true
  cases modeOf s.idx <;> rfl

theorem calm_resolved {s : State} (hc : calm s) : calm (resolved s) := calm_of_env_tail hc rfl

/-- Settles O20: the two ranges are those of Unused, whose RESOLVE goes to DONE. -/
theorem unusedIsASilentNoOp : Obligations.UnusedIsASilentNoOp := by
  intro s hq ha hrange
  have hm : modeOf s.idx = .unused := (inRange_iff_modeOf .unused s.idx).1 (by simpa [OperatingMode.inRange] using hrange)
  rw [step_of_resolve hq ha, resolved, hm]
  rfl

/-! ### the counts of the event lists (R78, R97) -/

theorem delayUnits_append (l l' : List Event) : delayUnits (l ++ l') = delayUnits l + delayUnits l' := List.count_append

theorem length_frameBits (raw : Nat) (cb : Bool) (n : Nat) : (frameBits raw cb n).length = n := by simp [frameBits]

theorem length_bitsEvents (ch : Channel) (bs : List Bool) : (bs.flatMap (bitEvents ch)).length = 5 * bs.length := by
  induction bs with
  | nil => rfl
  | cons b bs ih =>
    rw [List.flatMap_cons, List.length_append, ih, List.length_cons, bitEvents]
    simp only [List.length_cons, List.length_nil]
    omega

theorem delayUnits_bitsEvents (ch : Channel) (bs : List Bool) : delayUnits (bs.flatMap (bitEvents ch)) = 2 * bs.length := by
  induction bs with
  | nil => rfl
  | cons b bs ih =>
    have hbit : delayUnits (bitEvents ch b) = 2 := by cases ch <;> cases b <;> rfl
    rw [List.flatMap_cons, delayUnits_append, hbit, ih, List.length_cons]
    omega

theorem length_sendFieldEvents (ch : Channel) (raw : Nat) (cb : Bool) (n : Nat) :
    (sendFieldEvents ch raw cb n).length = 5 * n + 15 := by
  simp only [sendFieldEvents, List.length_append, length_bitsEvents, length_frameBits, initEvents, latchEvents, lowEvents,
    List.length_cons, List.length_nil]
  omega

theorem delayUnits_sendFieldEvents (ch : Channel) (raw : Nat) (cb : Bool) (n : Nat) :
    delayUnits (sendFieldEvents ch raw cb n) = 2 * n + 4 := by
  have hinit : delayUnits (initEvents ch) = 0 := by cases ch <;> rfl
  have hlatch : delayUnits (latchEvents ch) = 3 := by cases ch <;> rfl
  have hlow : delayUnits (lowEvents ch) = 1 := by cases ch <;> rfl
  rw [sendFieldEvents, delayUnits_append, delayUnits_append, delayUnits_append, delayUnits_bitsEvents, length_frameBits,
    hinit, hlatch, hlow]
  omega

theorem length_channelEvents (P : Params) (ch : Channel) (rv : RegisterValue) (selected : Bool) :
    (channelEvents P ch rv selected).length = if selected then 206 else 1 := by
  cases selected <;> simp [channelEvents, progChEvents, frameEvents, length_sendFieldEvents, frameN]

theorem delayUnits_channelEvents (P : Params) (ch : Channel) (rv : RegisterValue) (selected : Bool) :
    delayUnits (channelEvents P ch rv selected) = if selected then 78 else 0 := by
  cases selected with
  | false => rfl
  | true =>
    have hind : ∀ l, delayUnits (Event.indicator ch P.indActive :: l) = delayUnits l := fun _ => rfl
    simp [channelEvents, hind, progChEvents, frameEvents, delayUnits_append, delayUnits_sendFieldEvents, frameN]

theorem length_programEvents (P : Params) (e : TableEntry) (programTx programRx : Bool) :
    (programEvents P e programTx programRx).length = (if programRx then 206 else 1) + if programTx then 206 else 1 := by
  rw [programEvents, List.length_append, length_channelEvents, length_channelEvents]

theorem delayUnits_programEvents (P : Params) (e : TableEntry) (programTx programRx : Bool) :
    delayUnits (programEvents P e programTx programRx) = (if programRx then 78 else 0) + if programTx then 78 else 0 := by
  rw [programEvents, delayUnits_append, delayUnits_channelEvents, delayUnits_channelEvents]

/-! ### what the event lists make of a line (R26, R95, R100) -/

/-- What a list of events makes of the state of line `p` (R26). -/
def lineAfter (p : Line) (v : LineState) (l : List Event) : LineState :=
  ⟨l.foldl (levelStep p) v.lvl, l.foldl (dirStep p) v.dir⟩

theorem RunsEmitting.line {k : Nat} {l : List Event} {s t : State} (h : RunsEmitting k l s t) (p : Line) :
    t.lines.get p = lineAfter p (s.lines.get p) l := by
  rw [lineAfter, ← h.level, ← h.dir]

theorem lineAfter_append (p : Line) (v : LineState) (l l' : List Event) :
    lineAfter p v (l ++ l') = lineAfter p (lineAfter p v l) l' := by
  simp [lineAfter]

/-- An indicator event touches no line. -/
theorem lineAfter_indicator (p : Line) (v : LineState) (ch : Channel) (m : IndMode) (l : List Event) :
    lineAfter p v (.indicator ch m :: l) = lineAfter p v l := rfl

/-- Events of another channel leave a line as it is. -/
theorem lineAfter_of_other_channel {p : Line} (v : LineState) {l : List Event}
    (h : ∀ e ∈ l, eventChannel e ≠ some (lineChannel p)) : lineAfter p v l = v := by
  induction l with
  | nil => rfl
  | cons e l ih =>
    obtain ⟨he, hl⟩ := List.forall_mem_cons.1 h
    cases e with
    | level q b =>
      have hq : q ≠ p := fun hq => he (by rw [hq, eventChannel])
      simpa [lineAfter, levelStep, dirStep, hq] using ih hl
    | direction q d =>
      have hq : q ≠ p := fun hq => he (by rw [hq, eventChannel])
      simpa [lineAfter, levelStep, dirStep, hq] using ih hl
    | wait => exact ih hl
    | indicator c m => exact ih hl

/-- The events of a SENDFIELD call are for its channel, the delay units apart (R96). -/
theorem eventChannel_of_mem_sendFieldEvents {ch : Channel} {raw : Nat} {cb : Bool} {n : Nat} {e : Event}
    (h : e ∈ sendFieldEvents ch raw cb n) : eventChannel e = none ∨ eventChannel e = some ch := by
  obtain ⟨hdata, hclk, hle⟩ :
      lineChannel (dataLine ch) = ch ∧ lineChannel (clkLine ch) = ch ∧ lineChannel (leLine ch) = ch := by
    cases ch <;> exact ⟨rfl, rfl, rfl⟩
  simp only [sendFieldEvents, List.mem_append, List.mem_flatMap] at h
  obtain ((hinit | ⟨b, -, hbit⟩) | hlatch) | hlow := h
  · simp only [initEvents, List.mem_cons, List.not_mem_nil, or_false] at hinit
    obtain rfl | rfl | rfl | rfl | rfl | rfl := hinit <;> simp [eventChannel, hdata, hclk, hle]
  · simp only [bitEvents, List.mem_cons, List.not_mem_nil, or_false] at hbit
    obtain rfl | rfl | rfl | rfl | rfl := hbit <;> simp [eventChannel, hdata, hclk]
  · simp only [latchEvents, List.mem_cons, List.not_mem_nil, or_false] at hlatch
    obtain rfl | rfl | rfl | rfl | rfl := hlatch <;> simp [eventChannel, hle]
  · simp only [lowEvents, List.mem_cons, List.not_mem_nil, or_false] at hlow
    obtain rfl | rfl | rfl | rfl := hlow <;> simp [eventChannel, hdata, hclk, hle]

/-- Step 5 leaves each line of its channel at level 0 (R95). -/
theorem lowEvents_level (p : Line) (v : LineLevel) : (lowEvents (lineChannel p)).foldl (levelStep p) v = .zero := by
  cases p <;> rfl

/-- Step 1 leaves each line of its channel with direction Out (R91). -/
theorem initEvents_dir (p : Line) (v : LineDir) : (initEvents (lineChannel p)).foldl (dirStep p) v = .output := by
  cases p <;> rfl

theorem bitsEvents_dir (p : Line) (v : LineDir) (ch : Channel) (bs : List Bool) :
    (bs.flatMap (bitEvents ch)).foldl (dirStep p) v = v := by
  induction bs with
  | nil => rfl
  | cons b bs ih => simpa [bitEvents, dirStep] using ih

/-- A SENDFIELD call leaves its channel's lines at level 0 with direction Out, and the other lines alone (R100). -/
theorem lineAfter_sendFieldEvents (p : Line) (v : LineState) (ch : Channel) (raw : Nat) (cb : Bool) (n : Nat) :
    lineAfter p v (sendFieldEvents ch raw cb n) = if lineChannel p = ch then ⟨.zero, .output⟩ else v := by
  split
  next hch =>
    subst hch
    have hdir : (latchEvents (lineChannel p) ++ lowEvents (lineChannel p)).foldl (dirStep p) .output = .output := rfl
    rw [lineAfter, LineState.mk.injEq]
    constructor
    · rw [sendFieldEvents, List.foldl_append, lowEvents_level]
    · rw [sendFieldEvents, List.append_assoc, List.append_assoc, List.foldl_append, List.foldl_append, initEvents_dir,
        bitsEvents_dir, hdir]
  next hch =>
    refine lineAfter_of_other_channel v fun e he => ?_
    obtain hnone | hsome := eventChannel_of_mem_sendFieldEvents he
    · simp [hnone]
    · simpa [hsome] using fun h : ch = lineChannel p => hch h.symm

theorem lineAfter_channelEvents (P : Params) (p : Line) (v : LineState) (ch : Channel) (rv : RegisterValue) (selected : Bool) :
    lineAfter p v (channelEvents P ch rv selected) = if selected ∧ lineChannel p = ch then ⟨.zero, .output⟩ else v := by
  cases selected with
  | false => simp [channelEvents, lineAfter, levelStep, dirStep]
  | true =>
    simp only [channelEvents, if_true, lineAfter_indicator, progChEvents, frameEvents, lineAfter_append,
      lineAfter_sendFieldEvents]
    split <;> simp [*]

/-! ### PROGRAM (R73, R74) -/

/-- How many steps PROGRAM's step for a channel takes (log 1, log 2). -/
def channelSteps (selected : Bool) : Nat := if selected then 245 else 1

/-- PROGRAM's step for a channel, selected or not (R73). -/
theorem channel_run {s : State} {ch : Channel} (hq : s.seq = .prog ch .ind) (hs : onSequence s) (hc : calm s) :
    ∃ t, RunsEmitting (channelSteps (s.selected ch))
        (channelEvents Config.params ch (entryOf s.entry ch) (s.selected ch)) s t ∧ t.seq = afterChannel ch := by
  cases hsel : s.selected ch with
  | true => exact progCh_run hq hsel hs hc
  | false =>
    have hm : move s = .emit (.indicator ch Config.indIdle) (afterChannel ch) := by
      rw [move_prog hs hq, progAction, hsel]
      rfl
    exact ⟨_, runsEmitting_of_emit hs hc hm, rfl⟩

/-- PROGRAM from its first position to DONE: RX's step, then TX's (R73, R74). -/
theorem program_run {s : State} (hq : s.seq = .prog .rx .ind) (hs : onSequence s) (hc : calm s) :
    ∃ t, RunsEmitting (channelSteps s.selTx + channelSteps s.selRx)
        (programEvents Config.params s.entry s.selTx s.selRx) s t ∧ t.seq = .done := by
  obtain ⟨u, hrx, hqu⟩ := channel_run hq hs hc
  obtain ⟨t, htx, hqt⟩ := channel_run hqu hrx.onSeq hrx.quiet
  rw [State.selected, hrx.selTx, hrx.entry] at htx
  exact ⟨t, hrx.trans htx, hqt⟩

/-- What PROGRAM's run makes of a line: the selected channels' lines end at level 0 with direction Out (R100). -/
theorem program_run_line {k : Nat} {P : Params} {s t : State}
    (h : RunsEmitting k (programEvents P s.entry s.selTx s.selRx) s t) (p : Line) :
    t.lines.get p = if s.selected (lineChannel p) then ⟨.zero, .output⟩ else s.lines.get p := by
  rw [h.line p, programEvents, lineAfter_append, lineAfter_channelEvents, lineAfter_channelEvents]
  cases hch : lineChannel p with
  | tx => cases hsel : s.selTx <;> simp [State.selected, hsel]
  | rx => cases hsel : s.selRx <;> simp [State.selected, hsel]

/-! ### the programming commands (R66..R69) -/

/-- A calm dispatch of a programming command runs through RESOLVE and PROGRAM to DONE, with the flags of its mode. -/
theorem programming_run {s : State} {m : OperatingMode} (hq : s.seq = .resolve) (hc : calm s) (hm : modeOf s.idx = m)
    (hprog : afterResolve m = .prog .rx .ind) :
    ∃ t, runsTo (channelSteps (selTxOf m) + channelSteps (selRxOf m) + 1) s t ∧ t.seq = .done ∧ t.fault = s.fault ∧
      t.mode = m ∧ t.selTx = selTxOf m ∧ t.selRx = selRxOf m ∧
      t.trace = s.trace ++ programEvents Config.params (Config.freqTable s.idx) (selTxOf m) (selRxOf m) ∧
      ∀ p, t.lines.get p = if t.selected (lineChannel p) then ⟨.zero, .output⟩ else s.lines.get p := by
  subst hm
  obtain ⟨t, hrun, hdone⟩ := program_run (s := resolved s) hprog (onSequence_resolved s) (calm_resolved hc)
  refine ⟨t, runsTo_succ (step_of_resolve hq (calm_ports hc).1) hrun.run, hdone, hrun.fault, hrun.mode, hrun.selTx,
    hrun.selRx, hrun.trace, fun p => ?_⟩
  have hsel : t.selected (lineChannel p) = (resolved s).selected (lineChannel p) := by
    cases lineChannel p
    · exact hrun.selTx
    · exact hrun.selRx
  rw [hsel]
  exact program_run_line hrun p

/-- Settles O21: both modes select both channels. -/
theorem amateurAndCommercialRunToDone : Obligations.AmateurAndCommercialRunToDone := by
  intro s hq hc hrange
  have hm : modeOf s.idx = if s.idx.toNat ≤ 79 then .amateur else .commercial := by
    split
    · exact (inRange_iff_modeOf .amateur s.idx).1 (by simpa [OperatingMode.inRange])
    · exact (inRange_iff_modeOf .commercial s.idx).1 (by simp [OperatingMode.inRange]; omega)
  obtain ⟨hprog, hseltx, hselrx⟩ : afterResolve (modeOf s.idx) = .prog .rx .ind ∧ selTxOf (modeOf s.idx) = true ∧
      selRxOf (modeOf s.idx) = true := by
    rw [hm]
    split <;> exact ⟨rfl, rfl, rfl⟩
  obtain ⟨t, hrun, hdone, hfault, hmode, htx, hrx, htrace, hlines⟩ := programming_run hq hc rfl hprog
  rw [hseltx] at htx
  rw [hselrx] at hrx
  rw [hseltx, hselrx] at hrun htrace
  refine ⟨t, _, hrun, hdone, hfault, hmode.trans hm, htx, hrx, htrace, length_programEvents .., delayUnits_programEvents ..,
    rfl, fun p => ?_⟩
  rw [hlines p]
  cases lineChannel p <;> simp [State.selected, htx, hrx]

/-- Settles O22: TxTuning selects TX alone. -/
theorem txTuneRunsToDone : Obligations.TxTuneRunsToDone := by
  intro s hq hc hrange
  have hm : modeOf s.idx = .txTuning := (inRange_iff_modeOf .txTuning s.idx).1 (by simpa [OperatingMode.inRange])
  obtain ⟨t, hrun, hdone, hfault, hmode, htx, hrx, htrace, hlines⟩ := programming_run hq hc hm rfl
  refine ⟨t, _, hrun, hdone, hfault, hmode, htx, hrx, htrace, length_programEvents .., delayUnits_programEvents .., rfl,
    fun p => ?_⟩
  rw [hlines p]
  cases lineChannel p <;> simp [State.selected, htx, hrx, selTxOf, selRxOf]

/-- Settles O23: RxTuning selects RX alone. -/
theorem rxTuneRunsToDone : Obligations.RxTuneRunsToDone := by
  intro s hq hc hrange
  have hm : modeOf s.idx = .rxTuning := (inRange_iff_modeOf .rxTuning s.idx).1 (by simpa [OperatingMode.inRange])
  obtain ⟨t, hrun, hdone, hfault, hmode, htx, hrx, htrace, hlines⟩ := programming_run hq hc hm rfl
  refine ⟨t, _, hrun, hdone, hfault, hmode, htx, hrx, htrace, length_programEvents .., delayUnits_programEvents .., rfl,
    fun p => ?_⟩
  rw [hlines p]
  cases lineChannel p <;> simp [State.selected, htx, hrx, selTxOf, selRxOf]

end Sys2Proof.Machine

/-! Lemmas and proofs for the statements about the programmer (41_programmer.md): PROGRAM's moves, the event counts, and the
order of its two channel steps. -/

namespace Sys2Proof.Machine

open Sys2Proof.Safety

/-! ### the channel an event is for (R74) -/

@[simp] theorem lineChannel_dataLine (ch : Channel) : lineChannel (dataLine ch) = ch := by cases ch <;> rfl
@[simp] theorem lineChannel_clkLine (ch : Channel) : lineChannel (clkLine ch) = ch := by cases ch <;> rfl
@[simp] theorem lineChannel_leLine (ch : Channel) : lineChannel (leLine ch) = ch := by cases ch <;> rfl

theorem eventChannel_initEvent (ch : Channel) (k : Fin 6) : eventChannel (initEvent ch k) = some ch := by
  fin_cases k <;> simp [initEvent, eventChannel]

theorem eventChannel_bitEvent (ch : Channel) (b : Bool) (q : Fin 5) :
    eventChannel (bitEvent ch b q) = some ch ∨ bitEvent ch b q = .wait := by
  fin_cases q <;> simp [bitEvent, eventChannel]

theorem eventChannel_latchEvent (ch : Channel) (q : Fin 5) :
    eventChannel (latchEvent ch q) = some ch ∨ latchEvent ch q = .wait := by
  fin_cases q <;> simp [latchEvent, eventChannel]

theorem eventChannel_lowEvent (ch : Channel) (q : Fin 4) :
    eventChannel (lowEvent ch q) = some ch ∨ lowEvent ch q = .wait := by
  fin_cases q <;> simp [lowEvent, eventChannel]

/-! ### the order of the channel steps (R73, R74) -/

@[simp] theorem inChannelStep_prog {ch c : Channel} {part : Part} : inChannelStep ch (.prog c part) = true ↔ c = ch := by
  simp [inChannelStep]

@[simp] theorem inChannelStep_sf {ch c : Channel} {pos : SfPos} {f : Frame} :
    inChannelStep ch (.sf pos c f) = true ↔ c = ch := by
  simp [inChannelStep]

theorem running_of_inChannelStep {ch : Channel} {q : Seq} (h : inChannelStep ch q = true) : q.running = true := by
  cases q with
  | prog | sf => rfl
  | idle | resolve | tm | led | done | aborted | faulted => cases h

/-- A position stands in the step of at most one channel. -/
theorem eq_of_inChannelStep {c d : Channel} {q : Seq} (hc : inChannelStep c q = true) (hd : inChannelStep d q = true) :
    c = d := by
  cases q with
  | prog => exact (inChannelStep_prog.1 hc).symm.trans (inChannelStep_prog.1 hd)
  | sf => exact (inChannelStep_sf.1 hc).symm.trans (inChannelStep_sf.1 hd)
  | idle | resolve | tm | led | done | aborted | faulted => cases hc

/-- SENDFIELD works on the lines of the channel whose step called it (R75, R90). -/
theorem curCh_of_inChannelStep {s : State} {pos : SfPos} {c ch : Channel} {f : Frame} (hs : frameRegisters s)
    (hq : s.seq = .sf pos c f) (hin : inChannelStep ch s.seq = true) : s.curCh = ch := by
  simp only [frameRegisters, hq] at hs
  obtain ⟨hcur, -⟩ := hs
  rw [hq, inChannelStep_sf] at hin
  exact hcur.trans hin

/-- An event of a channel's step is for that channel or is a delay unit. -/
theorem Emits.eventChannel_eq {P : Params} {x : Word} {s : State} {e : Event} {q : Seq} {ch : Channel}
    (h : Emits P x s e q) (hin : inChannelStep ch s.seq = true) (hs : frameRegisters s) :
    eventChannel e = some ch ∨ e = .wait := by
  cases h with
  | active hq => rw [hq, inChannelStep_prog] at hin; exact .inl (hin ▸ rfl)
  | idle hq => rw [hq, inChannelStep_prog] at hin; exact .inl (hin ▸ rfl)
  | init hq => exact curCh_of_inChannelStep hs hq hin ▸ .inl (eventChannel_initEvent _ _)
  | bit hq => exact curCh_of_inChannelStep hs hq hin ▸ eventChannel_bitEvent _ _ _
  | latch hq => exact curCh_of_inChannelStep hs hq hin ▸ eventChannel_latchEvent _ _
  | low hq => exact curCh_of_inChannelStep hs hq hin ▸ eventChannel_lowEvent _ _
  | testMode hq => simp [hq, inChannelStep] at hin
  | ledTest hq => simp [hq, inChannelStep] at hin

/-- SENDFIELD's return stays in the channel's step after REF16 and ends it after CNT19 (R75). -/
theorem inChannelStep_sfReturn (ch : Channel) (f : Frame) :
    inChannelStep ch (sfReturn ch f) = true ∨ sfReturn ch f = afterChannel ch := by
  cases f with
  | ref16 => exact .inl (inChannelStep_prog.2 rfl)
  | cnt19 => exact .inr rfl

/-- An event of a channel's step stays in the step or ends it. -/
theorem Emits.inChannelStep_next {P : Params} {x : Word} {s : State} {e : Event} {q : Seq} {ch : Channel}
    (h : Emits P x s e q) (hin : inChannelStep ch s.seq = true) : inChannelStep ch q = true ∨ q = afterChannel ch := by
  cases h with
  | active hq => rw [hq] at hin; exact .inl hin
  | idle hq => rw [hq, inChannelStep_prog] at hin; exact .inr (hin ▸ rfl)
  | init hq => rw [hq] at hin; exact .inl hin
  | bit hq => rw [hq] at hin; exact .inl hin
  | latch hq => rw [hq] at hin; exact .inl hin
  | low hq =>
    rw [hq, inChannelStep_sf] at hin
    subst hin
    split
    · exact inChannelStep_sfReturn _ _
    · exact .inl (inChannelStep_sf.2 rfl)
  | testMode hq => simp [hq, inChannelStep] at hin
  | ledTest hq => simp [hq, inChannelStep] at hin

/-- A register write of a channel's step stays in the step. -/
theorem Writes.inChannelStep_next {P : Params} {m : OperatingMode} {x : Word} {s : State} {w : RegWrite} {q : Seq}
    {ch : Channel} (h : Writes P m x s w q) (hin : inChannelStep ch s.seq = true) : inChannelStep ch q = true := by
  cases h with
  | resolve hq => simp [hq, inChannelStep] at hin
  | call hq => rw [hq] at hin; exact hin
  | comp hq => rw [hq] at hin; exact hin
  | bitpos hq => rw [hq] at hin; exact hin

/-- From a channel's step SEQ stays in it, ends it, or is stopped (R73, R104, R106). -/
theorem Steps.inChannelStep_next {s t : State} {ch : Channel} (h : Steps s t) (hin : inChannelStep ch s.seq = true) :
    inChannelStep ch t.seq = true ∨ t.seq = afterChannel ch ∨ t.seq = .aborted ∨ t.seq = .faulted := by
  cases h with
  | abort => exact .inr (.inr (.inl rfl))
  | fault => exact .inr (.inr (.inr rfl))
  | event he => exact (he.inChannelStep_next hin).imp_right .inl
  | write hw => exact .inl (hw.inChannelStep_next hin)
  | accept hq => simp [hq, inChannelStep] at hin
  | stay hr => simp [running_of_inChannelStep hin] at hr

/-- RX's step ends in TX's, TX's in DONE (R73, R74). -/
theorem afterChannel_order (ch : Channel) :
    inChannelStep .rx (afterChannel ch) = false ∧ (afterChannel ch = .done → ch = .tx) := by
  cases ch with
  | tx => exact ⟨rfl, fun _ => rfl⟩
  | rx => exact ⟨rfl, fun h => by cases h⟩

/-- Settles O33: a channel's step emits its own events, and only its end leads out: from RX to TX, from TX to DONE. -/
theorem rxStepPrecedesTxStep : Obligations.RxStepPrecedesTxStep := by
  intro s t ch hin hs hstep
  have hsteps := steps_of_step hstep
  constructor
  · intro e he
    obtain ⟨ht, -, -⟩ | ⟨e', q, hemit, ht, -, -⟩ := hsteps.outputs
    · simp [he] at ht
    · obtain rfl : e = e' := by simpa [ht] using he.symm
      exact hemit.eventChannel_eq hin hs
  · obtain hin' | hend | hstop | hstop := hsteps.inChannelStep_next hin
    · exact ⟨fun hrx => eq_of_inChannelStep hin' hrx, fun hd => by simp [hd, inChannelStep] at hin'⟩
    · obtain ⟨hrx, hdone⟩ := afterChannel_order ch
      exact ⟨fun h => by simp [hend, hrx] at h, fun hd => hdone (hend ▸ hd)⟩
    · simp [hstop, inChannelStep]
    · simp [hstop, inChannelStep]

/-! ### the counts of R78 -/

/-- Settles O39, by the counts of SENDFIELD, of a channel's step and of PROGRAM. -/
theorem programCounts : Obligations.ProgramCounts := by
  intro P e ch rv
  exact ⟨fun raw cb n => ⟨length_sendFieldEvents ch raw cb n, delayUnits_sendFieldEvents ch raw cb n⟩,
    ⟨length_sendFieldEvents .., delayUnits_sendFieldEvents ..⟩,
    ⟨length_sendFieldEvents .., delayUnits_sendFieldEvents ..⟩,
    ⟨length_channelEvents .., delayUnits_channelEvents ..⟩,
    ⟨length_channelEvents .., delayUnits_channelEvents ..⟩,
    ⟨length_programEvents .., delayUnits_programEvents ..⟩,
    ⟨length_programEvents .., delayUnits_programEvents ..⟩,
    ⟨length_programEvents .., delayUnits_programEvents ..⟩⟩

/-! ### PROGRAM's moves (R73, R75) -/

/-- At a PROG position a programming command performs PROGRAM's action. -/
theorem exec_prog {i : Instr} {s : State} {ch : Channel} {part : Part}
    (hi : i.mode = .amateur ∨ i.mode = .txTuning ∨ i.mode = .rxTuning ∨ i.mode = .commercial)
    (hq : s.seq = .prog ch part) : exec i s = act (progAction Config.params s ch part) s := by
  rw [exec_eq_act, commandAction_prog hq, if_pos hi]

/-- The indicator event of a channel's step, active or idle, where no collaborator fails (R73, R76). -/
theorem exec_prog_ind {i : Instr} {s : State} {ch : Channel}
    (hi : i.mode = .amateur ∨ i.mode = .txTuning ∨ i.mode = .rxTuning ∨ i.mode = .commercial)
    (hq : s.seq = .prog ch .ind) (hf : s.ports.fails = false) :
    exec i s = .next (if s.selected ch then (setIndicator ch Config.indActive s).goto (.prog ch .ref)
      else (setIndicator ch Config.indIdle s).goto (afterChannel ch)) := by
  rw [exec_prog hi hq, progAction]
  split <;> rw [act, emit_performs _ _ _ hf] <;> rfl

/-- The call of a frame writes CUR_CH and CUR_N and begins SENDFIELD with the frame's operands (R75, R90). -/
theorem exec_prog_framePart {i : Instr} {s : State} {ch : Channel} {f : Frame}
    (hi : i.mode = .amateur ∨ i.mode = .txTuning ∨ i.mode = .rxTuning ∨ i.mode = .commercial)
    (hq : s.seq = .prog ch (framePart f)) :
    exec i s = .next { s with
      curCh := ch, curN := frameN f, seq := .sf (.init 0 (frameOperands s.entry ch f)) ch f } := by
  rw [exec_prog hi hq, progAction_framePart]
  rfl

/-- Settles O16, by the part of the channel's step SEQ stands at. -/
theorem programMoves : Obligations.ProgramMoves := by
  intro i s ch hi
  refine ⟨fun hq hf hsel => ?_, fun hq hf hsel => ?_, fun hq => ?_, fun hq => ?_⟩
  · rw [exec_prog_ind hi hq hf, if_pos hsel]
  · rw [exec_prog_ind hi hq hf, if_neg (by simp [hsel])]
    cases ch <;> rfl
  · exact exec_prog_framePart (f := .ref16) hi hq
  · exact exec_prog_framePart (f := .cnt19) hi hq

end Sys2Proof.Machine

/-! Lemmas and proofs for the statements about the diagnostic modes (42_diagnostic_modes.md): the run of TESTMODE and that of
LEDTEST are never left, drive no line but that of TESTMODE's row, and go round their loops for ever. -/

namespace Sys2Proof.Machine

open Sys2Proof.Safety

/-! ### the indices of the diagnostic modes (R48, R79) -/

theorem modeOf_eq_testMode {x : Word} (hlow : 240 ≤ x.toNat) (hhigh : x.toNat ≤ 245) : modeOf x = .testMode :=
  (inRange_iff_modeOf .testMode x).1 (by simp [OperatingMode.inRange, hlow, hhigh])

theorem modeOf_eq_ledTest {x : Word} (h : x.toNat = 255) : modeOf x = .ledTest :=
  (inRange_iff_modeOf .ledTest x).1 (by simp [OperatingMode.inRange, h])

theorem tmSub_val {x : Word} (hhigh : x.toNat ≤ 245) : (tmSub x).val = x.toNat - 240 :=
  Nat.mod_eq_of_lt (by omega)

/-- Settles O58: the difference is below 6, so reducing it modulo 6 changes nothing. -/
theorem testModeSubIndex : Obligations.TestModeSubIndex :=
  fun _ _ hhigh => ⟨tmSub_val hhigh, fun _ => rfl⟩

/-! ### the moves of the two runs (R81, R83) -/

/-- A half holds for at least one delay unit (R8). -/
theorem tmHold_zero (P : Params) (second : Bool) : tmHold P.tmHalfUnits second 0 = .hold second 0 :=
  if_pos (Nat.succ_pos _)

theorem ledHold_zero (P : Params) (second : Bool) : ledHold P.ledHalfUnits second 0 = .hold second 0 :=
  if_pos (Nat.succ_pos _)

/-- The second half drives the other level (R81). -/
theorem tmAction_level (P : Params) (row : TmRow) (second : Bool) :
    tmAction P row (.level second) =
      .emit (.level row.line (second ^^ P.tmStartLevel)) (.tm (tmHold P.tmHalfUnits second 0)) := by
  cases second <;> simp [tmAction]

/-- TX's indicator is On in the first half and Off in the second, in either phase (R83). -/
theorem ledMode_tx (phase : LedPhase) (second : Bool) : ledMode phase second .tx = if second then .off else .on := by
  cases phase <;> cases second <;> rfl

/-- RX's indicator goes with TX's in phase and against it in antiphase (R83). -/
theorem ledMode_rx (phase : LedPhase) (second : Bool) :
    ledMode phase second .rx = if second = decide (phase = .inPhase) then .off else .on := by
  cases phase <;> cases second <;> rfl

theorem exec_of_emit {i : Instr} {s : State} {e : Event} {q : Seq} (hf : s.ports.fails = false)
    (ha : commandAction Config.params i.mode (encode i) s = .emit e q) : exec i s = .next ((perform e s).goto q) := by
  rw [exec_eq_act, ha, act, emit_performs e q s hf]

/-- Settles O19, by the positions of each run. -/
theorem diagnosticMoves : Obligations.DiagnosticMoves := by
  intro i s hf
  constructor
  · intro pos hi hq
    have ha := (commandAction_tm (P := Config.params) (m := i.mode) (x := encode i) hq).trans (if_pos hi)
    cases pos with
    | indTx => exact ⟨_, _, exec_of_emit hf ha, rfl, rfl⟩
    | indRx => exact ⟨_, _, exec_of_emit hf ha, rfl, rfl⟩
    | dir => exact ⟨_, _, exec_of_emit hf ha, rfl, rfl⟩
    | level second =>
      rw [tmAction_level] at ha
      exact ⟨_, _, exec_of_emit hf ha, rfl, tmHold_zero _ second⟩
    | hold second j => exact ⟨_, _, exec_of_emit hf ha, rfl, rfl⟩
  · intro pos hi hq
    have ha := (commandAction_led (P := Config.params) (m := i.mode) (x := encode i) hq).trans (if_pos hi)
    match pos with
    | .ind second .tx =>
      rw [ledAction, ledMode_tx] at ha
      exact ⟨_, _, exec_of_emit hf ha, rfl, rfl⟩
    | .ind second .rx =>
      rw [ledAction, ledMode_rx] at ha
      exact ⟨_, _, exec_of_emit hf ha, ledHold_zero _ second, rfl⟩
    | .hold second j => exact ⟨_, _, exec_of_emit hf ha, rfl, rfl⟩

/-! ### the run of a diagnostic command is never left (R82, R84) -/

/-- The modes of TESTMODE and LEDTEST (R70, R71). -/
def isDiagnostic (m : OperatingMode) : Prop := m = .testMode ∨ m = .ledTest

/-- `inDiagnostic` is a diagnostic index with SEQ on sequence, the dispatch accepted and not done. -/
theorem inDiagnostic_iff (s : State) :
    inDiagnostic s ↔ isDiagnostic (modeOf s.idx) ∧ onSequence s ∧ s.seq ≠ .idle ∧ s.seq ≠ .done := by
  unfold inDiagnostic isDiagnostic onSequence
  cases hq : s.seq with
  | resolve | aborted | faulted => simp [modeHas]
  | idle | done => simp
  | tm => simpa [modeHas] using fun h => .inl h
  | led => simpa [modeHas] using fun h => .inr h
  | prog | sf =>
    simp only [modeHas, false_iff]
    rintro ⟨hd | hd, hm, -⟩ <;> simp [hd] at hm

/-- The only events of a diagnostic command are those of its own run (R81, R83). -/
theorem Emits.of_diagnostic {P : Params} {m : OperatingMode} {x : Word} {s : State} {e : Event} {q : Seq}
    (h : Emits P x s e q) (hd : isDiagnostic m) (hm : modeHas m s.seq = true) :
    (m = .testMode ∧ ∃ pos next, q = .tm next ∧ tmAction P (tmRead P (tmSub x)) pos = .emit e q) ∨
      m = .ledTest ∧ ∃ pos next, q = .led next ∧ ledAction P pos = .emit e q := by
  have hprogramming : ¬ (m = .amateur ∨ m = .txTuning ∨ m = .rxTuning ∨ m = .commercial) := by
    obtain rfl | rfl := hd <;> simp
  cases h with
  | active hq => exact absurd (modeHas_prog.1 (hq ▸ hm)) hprogramming
  | idle hq => exact absurd (modeHas_prog.1 (hq ▸ hm)) hprogramming
  | init hq => exact absurd (modeHas_sf.1 (hq ▸ hm)) hprogramming
  | bit hq => exact absurd (modeHas_sf.1 (hq ▸ hm)) hprogramming
  | latch hq => exact absurd (modeHas_sf.1 (hq ▸ hm)) hprogramming
  | low hq => exact absurd (modeHas_sf.1 (hq ▸ hm)) hprogramming
  | testMode hq ha => exact .inl ⟨by simpa [hq, modeHas] using hm, _, _, rfl, ha⟩
  | ledTest hq ha => exact .inr ⟨by simpa [hq, modeHas] using hm, _, _, rfl, ha⟩

theorem Emits.next_ne_done_of_diagnostic {P : Params} {m : OperatingMode} {x : Word} {s : State} {e : Event} {q : Seq}
    (h : Emits P x s e q) (hd : isDiagnostic m) (hm : modeHas m s.seq = true) : q ≠ .done := by
  obtain ⟨-, pos, next, rfl, -⟩ | ⟨-, pos, next, rfl, -⟩ := h.of_diagnostic hd hm <;> simp

theorem Writes.next_ne_done_of_diagnostic {P : Params} {m : OperatingMode} {x : Word} {s : State} {w : RegWrite} {q : Seq}
    (h : Writes P m x s w q) (hd : isDiagnostic m) : q ≠ .done := by
  cases h with
  | resolve => obtain rfl | rfl := hd <;> simp [afterResolve]
  | call | comp | bitpos => simp

theorem Steps.next_ne_done_of_diagnostic {s t : State} (h : Steps s t) (hs : inDiagnostic s) : t.seq ≠ .done := by
  obtain ⟨hd, hon, hidle, hdone⟩ := (inDiagnostic_iff s).1 hs
  cases h with
  | abort => simp
  | fault => simp
  | event he => simpa using he.next_ne_done_of_diagnostic hd hon
  | write hw => simpa using hw.next_ne_done_of_diagnostic hd
  | accept hq => exact absurd hq hidle
  | stay => exact hdone

/-- IDX is written by the acceptance of a dispatch alone (R23, R61). -/
theorem Steps.idx_eq {s t : State} (h : Steps s t) (hs : s.seq ≠ .idle) : t.idx = s.idx := by
  cases h with
  | abort => rfl
  | fault => rfl
  | event => simp
  | write => simp [writeRegs_idx]
  | accept hq => exact absurd hq hs
  | stay => rfl

/-- Settles O48: SEQ stays on the sequence of the one command IDX holds, and that has no way to IDLE or DONE. -/
theorem diagnosticCommandIsNeverLeft : Obligations.DiagnosticCommandIsNeverLeft := by
  intro s t hs hstep
  have hsteps := steps_of_step hstep
  obtain ⟨hd, hon, hidle, -⟩ := (inDiagnostic_iff s).1 hs
  have hidx := hsteps.idx_eq hidle
  refine ⟨(inDiagnostic_iff t).2 ⟨hidx ▸ hd, hsteps.onSequence_next hon, hsteps.next_ne_idle hidle, ?_⟩, hidx⟩
  exact hsteps.next_ne_done_of_diagnostic hs

/-! ### every run of a diagnostic command -/

/-- What every step keeps holds after every run. -/
theorem kept_of_runsTo {I : State → Prop} (hkeep : ∀ s t, I s → step s = .next t → I t) {k : Nat} {s t : State}
    (hs : I s) (h : runsTo k s t) : I t := by
  induction k generalizing s with
  | zero => cases h; exact hs
  | succ k ih =>
    obtain ⟨u, hu, hr⟩ := runsTo_succ_iff.1 h
    exact ih (hkeep s u hs hu) hr

/-- On sequence the machine runs on for ever (R24). -/
theorem exists_runsTo_of_onSequence (k : Nat) {s : State} (hs : onSequence s) : ∃ t, runsTo k s t := by
  induction k generalizing s with
  | zero => exact ⟨s, runsTo_zero s⟩
  | succ k ih =>
    obtain ⟨u, hu, hon⟩ := stepNeverStopsOnSequence s hs
    obtain ⟨t, ht⟩ := ih hon
    exact ⟨t, runsTo_succ hu ht⟩

theorem inDiagnostic_of_resolve {s : State} (hq : s.seq = .resolve) (hd : isDiagnostic (modeOf s.idx)) :
    inDiagnostic s :=
  (inDiagnostic_iff s).2 ⟨hd, by simp [onSequence, hq, modeHas], by simp [hq], by simp [hq]⟩

/-- Settles O31: the run goes on, and never leaves the command. -/
theorem diagnosticRunsNeverReachDone : Obligations.DiagnosticRunsNeverReachDone := by
  intro k s hq hx
  have hs : inDiagnostic s := inDiagnostic_of_resolve hq
    (hx.imp (fun ⟨hlow, hhigh⟩ => modeOf_eq_testMode hlow hhigh) modeOf_eq_ledTest)
  obtain ⟨-, hon, -, -⟩ := (inDiagnostic_iff s).1 hs
  obtain ⟨t, ht⟩ := exists_runsTo_of_onSequence k hon
  have hkept : inDiagnostic t := kept_of_runsTo (fun u v hu huv => (diagnosticCommandIsNeverLeft u v hu huv).1) hs ht
  obtain ⟨-, -, -, hdone⟩ := (inDiagnostic_iff t).1 hkept
  exact ⟨t, ht, hdone⟩

/-! ### the lines a diagnostic command leaves alone (R82, R84) -/

/-- The command of index `x` is LEDTEST, or TESTMODE with a row for another line than `p`. -/
def commandSparesLine (p : Line) (x : Word) : Prop :=
  modeOf x = .ledTest ∨ modeOf x = .testMode ∧ p ≠ (Config.tmTable (tmSub x)).line

/-- TESTMODE_RUN writes the line of its row alone (R81, R82). -/
theorem tmAction_line_unchanged {P : Params} {row : TmRow} {pos : TmPos} {e : Event} {q : Seq} {p : Line}
    (h : tmAction P row pos = .emit e q) (hp : p ≠ row.line) (s : State) :
    (perform e s).lines.get p = s.lines.get p := by
  cases pos with
  | dir => cases h; simp [perform, hp.symm]
  | level => cases h; simp [perform, hp.symm]
  | indTx => cases h; rfl
  | indRx => cases h; rfl
  | hold => cases h; rfl

/-- LEDTEST_RUN writes no line (R83, R84). -/
theorem ledAction_lines {P : Params} {pos : LedPos} {e : Event} {q : Seq} (h : ledAction P pos = .emit e q) (s : State) :
    (perform e s).lines = s.lines := by
  match pos with
  | .ind _ .tx => cases h; rfl
  | .ind _ .rx => cases h; rfl
  | .hold _ _ => cases h; rfl

/-- A diagnostic step leaves a line its command spares as it is. -/
theorem Steps.line_unchanged {s t : State} {p : Line} (h : Steps s t) (hs : inDiagnostic s)
    (hp : commandSparesLine p s.idx) : t.lines.get p = s.lines.get p := by
  obtain ⟨-, hl, -⟩ | ⟨e, q, he, -, hl, -⟩ := h.outputs
  · rw [hl]
  · obtain ⟨hd, hon, -, -⟩ := (inDiagnostic_iff s).1 hs
    rw [hl]
    obtain ⟨hm, pos, next, -, ha⟩ | ⟨-, pos, next, -, ha⟩ := he.of_diagnostic hd hon
    · obtain hled | ⟨-, hne⟩ := hp
      · cases hm.symm.trans hled
      · exact tmAction_line_unchanged ha hne s
    · rw [ledAction_lines ha s]

/-- In a diagnostic command that spares line `p`, whose state is `v`. -/
structure KeepsLine (p : Line) (v : LineState) (s : State) : Prop where
  inDiagnostic : inDiagnostic s
  spares : commandSparesLine p s.idx
  line : s.lines.get p = v

theorem KeepsLine.after_step {p : Line} {v : LineState} {s t : State} (h : KeepsLine p v s) (hstep : step s = .next t) :
    KeepsLine p v t := by
  obtain ⟨ht, hidx⟩ := diagnosticCommandIsNeverLeft s t h.inDiagnostic hstep
  exact ⟨ht, hidx ▸ h.spares, ((steps_of_step hstep).line_unchanged h.inDiagnostic h.spares).trans h.line⟩

/-- Every run of a diagnostic command leaves a line it spares as it is. -/
theorem line_unchanged_of_runsTo {k : Nat} {s t : State} {p : Line} (hq : s.seq = .resolve)
    (hp : commandSparesLine p s.idx) (h : runsTo k s t) : t.lines.get p = s.lines.get p := by
  have hs : inDiagnostic s := inDiagnostic_of_resolve hq (hp.elim .inr fun ⟨htm, _⟩ => .inl htm)
  have hkept : KeepsLine p (s.lines.get p) t := kept_of_runsTo (fun _ _ hu huv => hu.after_step huv) ⟨hs, hp, rfl⟩ h
  exact hkept.line

/-- Settles O32: TESTMODE spares every line but that of its row, LEDTEST every line. -/
theorem diagnosticRunsTouchNoOtherLine : Obligations.DiagnosticRunsTouchNoOtherLine := by
  intro k s t p hq hrun hx
  refine line_unchanged_of_runsTo hq ?_ hrun
  obtain ⟨hlow, hhigh, hp⟩ | hx := hx
  · exact .inr ⟨modeOf_eq_testMode hlow hhigh, hp⟩
  · exact .inl (modeOf_eq_ledTest hx)

/-! ### loops of delay units and of turns -/

/-- Positions that count delay units from `j` up to `n` emit the rest of them. -/
theorem waits_run {pos : Nat → Seq} {n : Nat}
    (hmove : ∀ v j, j < n → onSequence v → v.seq = pos j → move v = .emit .wait (pos (j + 1)))
    (r : Nat) {j : Nat} (hr : j + r = n) {s : State} (hq : s.seq = pos j) (hs : onSequence s) (hc : calm s) :
    ∃ t, RunsEmitting r (List.replicate r .wait) s t ∧ t.seq = pos n := by
  induction r generalizing j s with
  | zero =>
    cases hr
    exact ⟨s, .refl hs hc, hq⟩
  | succ r ih =>
    have hwait := runsEmitting_of_emit hs hc (hmove s j (by omega) hs hq)
    obtain ⟨t, hrest, hend⟩ := ih (j := j + 1) (by omega) rfl hwait.onSeq hwait.quiet
    exact ⟨t, hwait.trans hrest, hend⟩

theorem turns_succ (m : Nat) (l : List Event) : turns (m + 1) l = l ++ turns m l := rfl

/-- A loop whose turn emits `l` in `k` steps and comes back goes round any number of times. -/
theorem turns_run {q : Seq} {x : Word} {k : Nat} {l : List Event}
    (hturn : ∀ u, u.idx = x → u.seq = q → onSequence u → calm u → ∃ v, RunsEmitting k l u v ∧ v.seq = q)
    (m : Nat) {s : State} (hx : s.idx = x) (hq : s.seq = q) (hs : onSequence s) (hc : calm s) :
    ∃ t, RunsEmitting (m * k) (turns m l) s t ∧ t.seq = q := by
  induction m generalizing s with
  | zero => exact ⟨s, (Nat.zero_mul k).symm ▸ .refl hs hc, hq⟩
  | succ m ih =>
    obtain ⟨u, hfirst, hqu⟩ := hturn s hx hq hs hc
    obtain ⟨t, hrest, hqt⟩ := ih (hfirst.idx.trans hx) hqu hfirst.onSeq hfirst.quiet
    rw [turns_succ, Nat.succ_mul]
    exact ⟨t, hfirst.trans hrest, hqt⟩

/-- A calm run from RESOLVE whose rest is known: the flags and MODE are those of the mode of IDX (R62, R64). -/
theorem runsTo_of_resolved {k : Nat} {l : List Event} {s t : State} {m : OperatingMode} (hq : s.seq = .resolve)
    (hc : calm s) (hm : modeOf s.idx = m) (h : RunsEmitting k l (resolved s) t) :
    runsTo (1 + k) s t ∧ t.selTx = selTxOf m ∧ t.selRx = selRxOf m ∧ t.mode = m ∧ t.fault = s.fault ∧
      t.trace = s.trace ++ l := by
  subst hm
  rw [Nat.add_comm]
  exact ⟨runsTo_succ (step_of_resolve hq (calm_ports hc).1) h.run, h.selTx, h.selRx, h.mode, h.fault, h.trace⟩

/-! ### TESTMODE's square wave (R81) -/

/-- The row TESTMODE reads for the index `x` (R80). -/
def tmRowOf (x : Word) : TmRow := Config.tmTable (tmSub x)

theorem move_tm {s : State} {pos : TmPos} (hs : onSequence s) (hq : s.seq = .tm pos) :
    move s = tmAction Config.params (tmRowOf s.idx) pos := by
  rw [onSequence, hq] at hs
  rw [move, commandAction_tm hq, if_pos (by simpa [modeHas] using hs)]
  rfl

/-- The events before the loop (R81). -/
theorem testMode_setup {s : State} (hq : s.seq = .tm .indTx) (hs : onSequence s) (hc : calm s) :
    ∃ t, RunsEmitting 3 (tmSetupEvents (tmRowOf s.idx)) s t ∧ t.seq = .tm (.level false) := by
  have htx := runsEmitting_of_emit hs hc (move_tm hs hq)
  have hrx := runsEmitting_of_emit htx.onSeq htx.quiet (move_tm htx.onSeq rfl)
  have hdir := runsEmitting_of_emit hrx.onSeq hrx.quiet (move_tm hrx.onSeq rfl)
  exact ⟨_, (htx.trans hrx).trans hdir, rfl⟩

/-- A half: its level event, then its delay units, then the other half. -/
theorem testMode_half {s : State} {second : Bool} (hq : s.seq = .tm (.level second)) (hs : onSequence s) (hc : calm s) :
    ∃ t, RunsEmitting (Config.params.tmHalfUnits + 1)
        (.level (tmRowOf s.idx).line (second ^^ Config.tmStartLevel) :: List.replicate Config.params.tmHalfUnits .wait) s t ∧
      t.seq = .tm (.level !second) := by
  have hlevel := runsEmitting_of_emit hs hc ((move_tm hs hq).trans (tmAction_level ..))
  obtain ⟨t, hwaits, hqt⟩ := waits_run (pos := fun j => .tm (tmHold Config.params.tmHalfUnits second j))
    (fun v j hj hv hvq => by
      rw [tmHold, if_pos hj] at hvq
      exact move_tm hv hvq)
    Config.params.tmHalfUnits (Nat.zero_add _) rfl hlevel.onSeq hlevel.quiet
  exact ⟨t, hlevel.trans hwaits, by rw [hqt, tmHold, if_neg (Nat.lt_irrefl _)]⟩

/-- A turn of the loop is its two halves. -/
theorem testMode_turn {s : State} (hq : s.seq = .tm (.level false)) (hs : onSequence s) (hc : calm s) :
    ∃ t, RunsEmitting (2 * Config.params.tmHalfUnits + 2) (tmCycleEvents Config.params (tmRowOf s.idx)) s t ∧
      t.seq = .tm (.level false) := by
  obtain ⟨u, hfirst, hqu⟩ := testMode_half hq hs hc
  obtain ⟨t, hsecond, hqt⟩ := testMode_half hqu hfirst.onSeq hfirst.quiet
  rw [hfirst.idx, Bool.not_false, Bool.true_xor] at hsecond
  rw [Bool.false_xor] at hfirst
  rw [show 2 * Config.params.tmHalfUnits + 2 = Config.params.tmHalfUnits + 1 + (Config.params.tmHalfUnits + 1) by omega]
  exact ⟨t, hfirst.trans hsecond, hqt⟩

/-- The index `240 + k` is TESTMODE's, and its row is row `k` (R48, R79, R80). -/
theorem testMode_index (k : Fin 6) :
    modeOf (BitVec.ofNat 8 (240 + k)) = .testMode ∧ tmRowOf (BitVec.ofNat 8 (240 + k)) = Config.tmTable k := by
  have hx : (BitVec.ofNat 8 (240 + k)).toNat = 240 + k := by
    rw [BitVec.toNat_ofNat]
    omega
  have hsub : tmSub (BitVec.ofNat 8 (240 + k)) = k := by
    ext
    rw [tmSub_val (by omega), hx, Nat.add_sub_cancel_left]
  exact ⟨modeOf_eq_testMode (by omega) (by omega), congrArg Config.tmTable hsub⟩

/-- Settles O29: RESOLVE, the events before the loop, and `m` turns of it. -/
theorem testModeDrivesASquareWave : Obligations.TestModeDrivesASquareWave := by
  intro m k s hq hc hx
  obtain ⟨hm, hrow⟩ := testMode_index k
  rw [← hx] at hm hrow
  have hstart : (resolved s).seq = .tm .indTx := congrArg afterResolve hm
  obtain ⟨u, hsetup, hqu⟩ := testMode_setup hstart (onSequence_resolved s) (calm_resolved hc)
  obtain ⟨t, hloop, hqt⟩ := turns_run
    (fun v hv hvq hvs hvc => hv ▸ testMode_turn hvq hvs hvc) m rfl hqu hsetup.onSeq hsetup.quiet
  obtain ⟨hrun, htx, hrx, hmode, hfault, htrace⟩ := runsTo_of_resolved hq hc hm (hsetup.trans hloop)
  have hrowu : tmRowOf u.idx = Config.tmTable k := (congrArg tmRowOf hsetup.idx).trans hrow
  have hrows : tmRowOf (resolved s).idx = Config.tmTable k := hrow
  rw [hrowu, hrows, ← List.append_assoc] at htrace
  rw [← Nat.add_assoc, Nat.add_right_comm] at hrun
  exact ⟨t, hrun, hqt, htx, hrx, hmode, hfault, htrace⟩

/-! ### LEDTEST's alternation (R83) -/

theorem move_led {s : State} {pos : LedPos} (hs : onSequence s) (hq : s.seq = .led pos) :
    move s = ledAction Config.params pos := by
  rw [onSequence, hq] at hs
  rw [move, commandAction_led hq, if_pos (by simpa [modeHas] using hs)]

/-- A half: its two indicator events, then its delay units, then the other half. -/
theorem ledTest_half {s : State} {second : Bool} (hq : s.seq = .led (.ind second .tx)) (hs : onSequence s) (hc : calm s) :
    ∃ t, RunsEmitting (Config.params.ledHalfUnits + 2)
        ([.indicator .tx (ledMode Config.ledPhase second .tx), .indicator .rx (ledMode Config.ledPhase second .rx)] ++
          List.replicate Config.params.ledHalfUnits .wait) s t ∧
      t.seq = .led (.ind (!second) .tx) := by
  have htx := runsEmitting_of_emit hs hc (move_led hs hq)
  have hrx := runsEmitting_of_emit htx.onSeq htx.quiet (move_led htx.onSeq rfl)
  obtain ⟨t, hwaits, hqt⟩ := waits_run (pos := fun j => .led (ledHold Config.params.ledHalfUnits second j))
    (fun v j hj hv hvq => by
      rw [ledHold, if_pos hj] at hvq
      exact move_led hv hvq)
    Config.params.ledHalfUnits (Nat.zero_add _) rfl hrx.onSeq hrx.quiet
  exact ⟨t, (htx.trans hrx).trans hwaits, by rw [hqt, ledHold, if_neg (Nat.lt_irrefl _)]⟩

/-- The two halves of LEDTEST's turn are the cycle of its phase. -/
theorem ledCycleEvents_eq_halves (P : Params) :
    ledCycleEvents P =
      [.indicator .tx (ledMode P.ledPhase false .tx), .indicator .rx (ledMode P.ledPhase false .rx)] ++
          List.replicate P.ledHalfUnits .wait ++
        ([.indicator .tx (ledMode P.ledPhase true .tx), .indicator .rx (ledMode P.ledPhase true .rx)] ++
          List.replicate P.ledHalfUnits .wait) := by
  rw [← List.append_assoc, ledCycleEvents]
  cases P.ledPhase <;> rfl

/-- A turn of the loop is its two halves. -/
theorem ledTest_turn {s : State} (hq : s.seq = .led (.ind false .tx)) (hs : onSequence s) (hc : calm s) :
    ∃ t, RunsEmitting (2 * Config.params.ledHalfUnits + 4) (ledCycleEvents Config.params) s t ∧
      t.seq = .led (.ind false .tx) := by
  obtain ⟨u, hfirst, hqu⟩ := ledTest_half hq hs hc
  obtain ⟨t, hsecond, hqt⟩ := ledTest_half hqu hfirst.onSeq hfirst.quiet
  rw [ledCycleEvents_eq_halves,
    show 2 * Config.params.ledHalfUnits + 4 = Config.params.ledHalfUnits + 2 + (Config.params.ledHalfUnits + 2) by omega]
  exact ⟨t, hfirst.trans hsecond, hqt⟩

/-- The six lines are what `get` reads of them. -/
theorem lines_eq_of_get {l l' : Lines} (h : ∀ p, l.get p = l'.get p) : l = l' := by
  cases l
  cases l'
  simpa [Lines.get] using And.intro (h .txClk) ⟨h .txData, h .txLe, h .rxClk, h .rxData, h .rxLe⟩

/-- Settles O30: RESOLVE and `m` turns of the loop; no line is touched in any run. -/
theorem ledTestAlternatesTheIndicators : Obligations.LedTestAlternatesTheIndicators := by
  intro m s hq hc hx
  have hm : modeOf s.idx = .ledTest := modeOf_eq_ledTest (by rw [hx]; rfl)
  have hstart : (resolved s).seq = .led (.ind false .tx) := congrArg afterResolve hm
  obtain ⟨t, hloop, hqt⟩ := turns_run
    (fun v _ hvq hvs hvc => ledTest_turn hvq hvs hvc) m rfl hstart (onSequence_resolved s) (calm_resolved hc)
  obtain ⟨hrun, htx, hrx, hmode, hfault, htrace⟩ := runsTo_of_resolved hq hc hm hloop
  have hlines : t.lines = s.lines := lines_eq_of_get fun p => line_unchanged_of_runsTo hq (.inl hm) hrun
  exact ⟨t, hrun, hqt, htx, hrx, hmode, hfault, hlines, htrace⟩

end Sys2Proof.Machine

/-! Lemmas and proofs for the statements about the serial encoder (43_serial_encoder.md): the primitives, the call of SENDFIELD and
its moves, the event list of R96 with its counts and corner cases, and the run that emits it. -/

namespace Sys2Proof.Machine

open Sys2Proof.Safety

/-! ### the primitives (R86..R89) -/

theorem levelOfBit_eq_ite (v : Bool) : levelOfBit v = if v then .one else .zero := by cases v <;> rfl

theorem setLevel_get (p q : Line) (v : Bool) (s : State) :
    (setLevel p v s).lines.get q = if q = p then ⟨levelOfBit v, (s.lines.get p).dir⟩ else s.lines.get q := by
  rw [setLevel_lines, lines_get_set]
  exact if_congr eq_comm rfl rfl

theorem setDirection_get (p q : Line) (d : Direction) (s : State) :
    (setDirection p d s).lines.get q = if q = p then ⟨(s.lines.get p).lvl, dirOf d⟩ else s.lines.get q := by
  rw [setDirection_lines, lines_get_set]
  exact if_congr eq_comm rfl rfl

theorem setIndicator_get (ch c : Channel) (m : IndMode) (s : State) :
    (setIndicator ch m s).inds.get c = if c = ch then indOf m else s.inds.get c := by
  rw [setIndicator_inds, inds_get_set]
  exact if_congr eq_comm rfl rfl

/-- Settles O41, primitive by primitive. -/
theorem primitiveEffects : Obligations.PrimitiveEffects := by
  refine ⟨fun p v s => ⟨_, rfl, fun q => ?_⟩, fun p d s => ⟨_, rfl, fun q => ?_⟩, fun s => rfl,
    fun ch m s => ⟨_, rfl, fun c => ?_⟩⟩
  · rw [← levelOfBit_eq_ite]
    exact setLevel_get p q v s
  · cases d <;> exact setDirection_get p q _ s
  · cases m <;> exact setIndicator_get ch c _ s

/-! ### the call of SENDFIELD (R90) -/

theorem sendFieldCall_wellFormed_iff (N : Nat) (c : SendFieldCall) : c.wellFormed N = true ↔ c.cb ≤ 1 ∧ c.n ≤ N := by
  simp [SendFieldCall.wellFormed]

theorem act_callSendField_of_outside {P : Params} {c : SendFieldCall} (h : P.maxBitCount < c.n ∨ 1 < c.cb) (f : Frame)
    (s : State) : act (callSendField P c f) s = .refused (.bitCountOutOfRange c.n) := by
  have hwf : ¬ c.wellFormed P.maxBitCount = true := by
    rw [sendFieldCall_wellFormed_iff]
    omega
  rw [callSendField, if_neg hwf, act]

/-- The state a call of SENDFIELD leads to: CUR_CH and CUR_N are the call's, and SENDFIELD begins with its operands. -/
def called (c : SendFieldCall) (f : Frame) (s : State) : State :=
  { s with curCh := c.ch, curN := c.n, seq := .sf (.init 0 ⟨c.raw, decide (c.cb = 1)⟩) c.ch f }

theorem act_callSendField_of_inside {P : Params} {c : SendFieldCall} (hn : c.n ≤ P.maxBitCount) (hcb : c.cb ≤ 1) (f : Frame)
    (s : State) : act (callSendField P c f) s = .next (called c f s) := by
  rw [callSendField, if_pos ((sendFieldCall_wellFormed_iff _ c).2 ⟨hcb, hn⟩)]
  rfl

/-- The calls the programmer makes lie in SENDFIELD's domain (U10). -/
theorem frameCall_inside (P : Params) (e : TableEntry) (ch : Channel) (f : Frame) :
    (frameCall e ch f).n ≤ P.maxBitCount ∧ (frameCall e ch f).cb ≤ 1 :=
  ⟨frameN_le P f, Bool.toNat_le (frameCb f)⟩

/-- Settles O40, by whether the call is well-formed. -/
theorem sendFieldRefusesOutsideItsDomain : Obligations.SendFieldRefusesOutsideItsDomain :=
  ⟨fun _ _ f s h => act_callSendField_of_outside h f s, fun _ _ f s hn hcb => act_callSendField_of_inside hn hcb f s,
    frameCall_inside⟩

/-! ### the moves of SENDFIELD (R91..R95) -/

/-- At a position of SENDFIELD a programming command performs SENDFIELD's action. -/
theorem commandAction_programming_sf {P : Params} {m : OperatingMode} {x : Word} {s : State} {pos : SfPos} {ch : Channel}
    {f : Frame} (hm : m = .amateur ∨ m = .txTuning ∨ m = .rxTuning ∨ m = .commercial) (hq : s.seq = .sf pos ch f) :
    commandAction P m x s = sfAction s pos ch f := by
  rw [commandAction_sf hq, if_pos hm]

theorem exec_of_write {i : Instr} {s : State} {w : RegWrite} {q : Seq}
    (ha : commandAction Config.params i.mode (encode i) s = .write w q) : exec i s = .next ((writeRegs w s).goto q) := by
  rw [exec_eq_act, ha, act]

/-- The event at a place of a step is the one the step's list holds there. -/
theorem getElem?_ofFn_val {n : Nat} (ev : Fin n → Event) (k : Fin n) : (List.ofFn ev)[k.val]? = some (ev k) := by simp

theorem composite_eq_or (raw : Nat) (cb : Bool) : composite raw cb = (raw <<< 1) ||| (if cb then 1 else 0) := by
  cases cb <;> rfl

theorem bitLoop_eq_match (m : Nat) : bitLoop m = match m with | 0 => .latch 0 | i + 1 => .setBit i := by
  cases m <;> rfl

/-- Settles O17: SENDFIELD's action at each position of steps 1, 2, 4 and 5. -/
theorem sendFieldStepMoves : Obligations.SendFieldStepMoves := by
  intro i s o ch f hi
  refine ⟨fun k hq hf => ?_, fun hq => ?_, fun q hq hf => ?_, fun q hq hf => ?_⟩
  · exact ⟨initEvent s.curCh k, getElem?_ofFn_val (initEvent s.curCh) k, exec_of_emit hf (commandAction_programming_sf hi hq)⟩
  · have hexec := exec_of_write (commandAction_programming_sf hi hq)
    rw [composite_eq_or, bitLoop_eq_match] at hexec
    exact hexec
  · exact ⟨latchEvent s.curCh q, getElem?_ofFn_val (latchEvent s.curCh) q, exec_of_emit hf (commandAction_programming_sf hi hq)⟩
  · exact ⟨lowEvent s.curCh q, getElem?_ofFn_val (lowEvent s.curCh) q, exec_of_emit hf (commandAction_programming_sf hi hq)⟩

/-- Settles O18: SENDFIELD's action at each position of step 3. -/
theorem bitLoopMoves : Obligations.BitLoopMoves := by
  intro i s ch f hi
  refine ⟨fun b hq => exec_of_write (commandAction_programming_sf hi hq), fun q hq hf => ?_⟩
  refine ⟨bitEvent s.curCh (bitOf s.comp s.bitpos) q, getElem?_ofFn_val (bitEvent s.curCh (bitOf s.comp s.bitpos)) q, ?_⟩
  have hexec := exec_of_emit hf (commandAction_programming_sf hi hq)
  rw [bitLoop_eq_match] at hexec
  exact hexec

/-! ### the event list by its places (R96) -/

/-- Past the first `j` bits of a frame stand the events of the lower bits. -/
theorem drop_bitsEvents (ch : Channel) (raw : Nat) (cb : Bool) (j m : Nat) :
    ((frameBits raw cb (m + j)).flatMap (bitEvents ch)).drop (5 * j) = (frameBits raw cb m).flatMap (bitEvents ch) := by
  induction j with
  | zero => rfl
  | succ j ih => rw [← Nat.add_assoc, frameBits_succ]; exact ih

/-- Past step 1 and the first `j` bits stand the lower bits and steps 4 and 5. -/
theorem drop_sendFieldEvents (ch : Channel) (raw : Nat) (cb : Bool) (j m : Nat) :
    (sendFieldEvents ch raw cb (m + j)).drop (6 + 5 * j) =
      (frameBits raw cb m).flatMap (bitEvents ch) ++ (latchEvents ch ++ lowEvents ch) := by
  have hlen : 5 * j ≤ ((frameBits raw cb (m + j)).flatMap (bitEvents ch)).length := by
    rw [length_bitsEvents, length_frameBits]
    omega
  have hinit (l : List Event) : (initEvents ch ++ l).drop (6 + 5 * j) = l.drop (5 * j) := by
    rw [← List.drop_drop]
    rfl
  rw [sendFieldEvents, List.append_assoc, List.append_assoc, hinit, List.drop_append_of_le_length hlen, drop_bitsEvents]

/-- The five events at the place of bit position `n - 1 - j` are that bit's. -/
theorem take_drop_sendFieldEvents (ch : Channel) (raw : Nat) (cb : Bool) {j n : Nat} (hj : j < n) :
    ((sendFieldEvents ch raw cb n).drop (6 + 5 * j)).take 5 = bitEvents ch ((composite raw cb).testBit (n - 1 - j)) := by
  obtain ⟨m, rfl⟩ : ∃ m, n = m + 1 + j := ⟨n - 1 - j, by omega⟩
  rw [drop_sendFieldEvents, frameBits_succ, show m + 1 + j - 1 - j = m by omega]
  rfl

/-! ### the run of SENDFIELD (R96) -/

/-- Settles O24: the run emits `sendFieldEvents`, which is the numbered list place by place. -/
theorem sendFieldEmitsTheNumberedList : Obligations.SendFieldEmitsTheNumberedList := by
  intro s o ch f hq hs hc
  obtain ⟨t, hrun, -, hcomp, hnext⟩ := sendField_run hq hs hc
  refine ⟨t, _, hrun.run, hrun.trace, length_sendFieldEvents .., hcomp.trans (composite_eq_or ..), rfl, fun j hj => ?_, ?_, ?_⟩
  · rw [hcomp]
    exact take_drop_sendFieldEvents _ _ _ hj
  · have hlast := drop_sendFieldEvents s.curCh o.raw o.cb s.curN 0
    rwa [Nat.zero_add] at hlast
  · rw [hnext]
    cases f <;> cases ch <;> rfl

/-- The indices up to 226 are those of the programming commands, which have SENDFIELD's positions (R48). -/
theorem modeHas_sf_of_programming {x : Word} (hx : x.toNat ≤ 226) (pos : SfPos) (ch : Channel) (f : Frame) :
    modeHas (modeOf x) (.sf pos ch f) = true := by
  rw [modeHas_sf]
  simp only [← inRange_iff_modeOf, OperatingMode.inRange, Bool.and_eq_true, decide_eq_true_eq]
  omega

/-- A control bit of 0 or 1 is the number of the bit the call hands over (R90). -/
theorem toNat_decide_eq_one {cb : Nat} (h : cb ≤ 1) : (decide (cb = 1)).toNat = cb := by
  interval_cases cb <;> rfl

/-- Settles O25: the call leads to the start of SENDFIELD with its own operands, and SENDFIELD runs. -/
theorem everySendFieldCallEmitsItsList : Obligations.EverySendFieldCallEmitsItsList := by
  intro c f s hn hcb hc hx
  obtain ⟨t, hrun, -, hcomp, -⟩ := sendField_run (s := called c f s) rfl (modeHas_sf_of_programming hx _ _ _) hc
  refine ⟨called c f s, t, act_callSendField_of_inside hn hcb f s, hrun.run, hrun.trace, ?_⟩
  rw [hcomp, composite_eq, toNat_decide_eq_one hcb]

/-! ### what a run of SENDFIELD leaves (R100) -/

theorem bitsEvents_ind (c : Channel) (v : IndState) (ch : Channel) (bs : List Bool) :
    (bs.flatMap (bitEvents ch)).foldl (indStep c) v = v := by
  induction bs with
  | nil => rfl
  | cons b bs ih => exact ih

/-- No event of SENDFIELD is an indicator event. -/
theorem sendFieldEvents_ind (c : Channel) (v : IndState) (ch : Channel) (raw : Nat) (cb : Bool) (n : Nat) :
    (sendFieldEvents ch raw cb n).foldl (indStep c) v = v := by
  rw [sendFieldEvents, List.foldl_append, List.foldl_append, List.foldl_append, bitsEvents_ind]
  rfl

/-- The two indicators are what `get` reads of them. -/
theorem inds_eq_of_get {x y : Inds} (h : ∀ ch, x.get ch = y.get ch) : x = y := by
  cases x
  cases y
  simpa [Inds.get] using And.intro (h .tx) (h .rx)

/-- Settles O27, by what the event list makes of each line and indicator. -/
theorem sendFieldLeavesItsLinesLow : Obligations.SendFieldLeavesItsLinesLow := by
  intro s o ch f hq hs hc
  obtain ⟨t, hrun, -⟩ := sendField_run hq hs hc
  exact ⟨t, hrun.run, fun p => (hrun.line p).trans (lineAfter_sendFieldEvents ..),
    inds_eq_of_get fun c => (hrun.ind c).trans (sendFieldEvents_ind ..)⟩

/-! ### truncation and the corner cases (R98) -/

/-- Of the raw value a frame holds the bits below the bit count less 1 alone. -/
theorem frameBits_congr {raw raw' n : Nat} (cb : Bool) (h : ∀ k < n, raw.testBit k = raw'.testBit k) :
    frameBits raw cb (n + 1) = frameBits raw' cb (n + 1) := by
  rw [frameBits_eq_append, frameBits_eq_append]
  congr 1
  refine List.map_congr_left fun j hj => h _ ?_
  have hjn := List.mem_range.1 hj
  omega

theorem frameBits_mod (raw : Nat) (cb : Bool) (n : Nat) :
    frameBits (raw % 2 ^ n) cb (n + 1) = frameBits raw cb (n + 1) :=
  frameBits_congr cb fun k hk => by simp [Nat.testBit_mod_two_pow, hk]

theorem frameBits_zeros (cb : Bool) (n : Nat) : frameBits 0 cb (n + 1) = List.replicate n false ++ [cb] := by
  rw [frameBits_eq_append]
  simp

theorem frameBits_ones (cb : Bool) (n : Nat) : frameBits (2 ^ n - 1) cb (n + 1) = List.replicate n true ++ [cb] := by
  have hone : ∀ j ∈ List.range n, (2 ^ n - 1).testBit (n - 1 - j) = true := by
    intro j hj
    have hjn := List.mem_range.1 hj
    rw [Nat.testBit_two_pow_sub_one]
    exact decide_eq_true (by omega)
  rw [frameBits_eq_append, List.map_congr_left hone]
  simp

/-- Settles O37: the frame depends on the low bits of the raw value, and ends with the control bit. -/
theorem truncationCornerCases : Obligations.TruncationCornerCases := by
  intro ch cb
  refine ⟨fun raw n hn => ?_, frameBits_zeros cb, frameBits_ones cb, fun n => ?_, fun raw => frameBits_eq_append raw cb 0,
    fun raw => ⟨rfl, length_sendFieldEvents ..⟩, fun raw n hn => ?_⟩
  · obtain ⟨m, rfl⟩ := Nat.exists_eq_add_of_le' hn
    rw [sendFieldEvents, sendFieldEvents, Nat.add_sub_cancel, frameBits_mod]
  · rw [← frameBits_mod, Nat.mod_self]
  · obtain ⟨m, rfl⟩ := Nat.exists_eq_add_of_le' hn
    rw [frameBits_eq_append, List.getLast?_concat]

/-! ### the rising edges (R97) -/

theorem risingEdges_append (p : Line) (v : LineLevel) (l l' : List Event) :
    risingEdges p v (l ++ l') = risingEdges p v l + risingEdges p (l.foldl (levelStep p) v) l' := by
  induction l generalizing v with
  | nil => simp [risingEdges]
  | cons e l ih => rw [List.cons_append, risingEdges, ih, risingEdges, List.foldl_cons, Nat.add_assoc]

/-- Bits that each make `k` rising edges on a line and bring it back to its level. -/
theorem risingEdges_bitsEvents {p : Line} {v : LineLevel} {ch : Channel} {k : Nat}
    (hedges : ∀ b, risingEdges p v (bitEvents ch b) = k) (hback : ∀ b, (bitEvents ch b).foldl (levelStep p) v = v)
    (bs : List Bool) :
    risingEdges p v (bs.flatMap (bitEvents ch)) = k * bs.length ∧ (bs.flatMap (bitEvents ch)).foldl (levelStep p) v = v := by
  induction bs with
  | nil => exact ⟨rfl, rfl⟩
  | cons b bs ih =>
    obtain ⟨hrest, hend⟩ := ih
    rw [List.flatMap_cons, risingEdges_append, List.foldl_append, hedges, hback, hrest, List.length_cons, Nat.mul_succ,
      Nat.add_comm]
    exact ⟨rfl, hend⟩

/-- The rising edges of a SENDFIELD call on a line that step 1 sets to 0 and each bit brings back to 0. -/
theorem risingEdges_sendFieldEvents {p : Line} {v : LineLevel} {ch : Channel} {k : Nat}
    (hinit : risingEdges p v (initEvents ch) = 0) (hzero : (initEvents ch).foldl (levelStep p) v = .zero)
    (hedges : ∀ b, risingEdges p .zero (bitEvents ch b) = k)
    (hback : ∀ b, (bitEvents ch b).foldl (levelStep p) .zero = .zero) (raw : Nat) (cb : Bool) (n : Nat) :
    risingEdges p v (sendFieldEvents ch raw cb n) = k * n + risingEdges p .zero (latchEvents ch ++ lowEvents ch) := by
  obtain ⟨hbits, hend⟩ := risingEdges_bitsEvents hedges hback (frameBits raw cb n)
  rw [sendFieldEvents, List.append_assoc, risingEdges_append, List.foldl_append, risingEdges_append, hinit, hzero, hbits,
    hend, length_frameBits, Nat.zero_add]

/-- Each bit clocks the clock line once; no other event raises it. -/
theorem risingEdges_clkLine (v : LineLevel) (ch : Channel) (raw : Nat) (cb : Bool) (n : Nat) :
    risingEdges (clkLine ch) v (sendFieldEvents ch raw cb n) = n := by
  cases ch <;>
    exact (risingEdges_sendFieldEvents rfl rfl (fun _ => rfl) (fun _ => rfl) raw cb n).trans (Nat.one_mul n)

/-- No bit touches the latch-enable line, and the latch pulse raises it once. -/
theorem risingEdges_leLine (v : LineLevel) (ch : Channel) (raw : Nat) (cb : Bool) (n : Nat) :
    risingEdges (leLine ch) v (sendFieldEvents ch raw cb n) = 1 := by
  cases ch <;>
    exact (risingEdges_sendFieldEvents rfl rfl (fun _ => rfl) (fun _ => rfl) raw cb n).trans
      (congrArg (· + 1) (Nat.zero_mul n))

/-- Settles O38, by the counts of the list and its edges on each line. -/
theorem sendFieldCounts : Obligations.SendFieldCounts := by
  intro ch raw cb n v w
  exact ⟨length_sendFieldEvents .., delayUnits_sendFieldEvents .., risingEdges_clkLine .., risingEdges_leLine ..,
    fun _ => ⟨length_sendFieldEvents .., delayUnits_sendFieldEvents ..⟩,
    fun _ => ⟨length_sendFieldEvents .., delayUnits_sendFieldEvents ..⟩⟩

end Sys2Proof.Machine

/-! Lemmas and proofs for the statements about the exceptions and the host (60_exceptions.md): the collaborator fault, ABORT, the
final states, and the invocations the host makes. -/

namespace Sys2Proof.Machine

open Sys2Proof.Safety

/-! ### the collaborator fault (R104) -/

theorem emit_of_fails (e : Event) (q : Seq) {s : State} (h : s.ports.fails = true) : emit e q s = takeFault e s := by
  rw [emit, if_pos h]

/-- Settles O42: the running step is the emission of the command's event, which fails. -/
theorem collaboratorFailureStopsInFaulted : Obligations.CollaboratorFailureStopsInFaulted := by
  intro s i e q ha hf hr hd hm
  rw [stepRunsDecodedInstruction s i ha hr hd, exec_eq_act, hm, act, emit_of_fails e q hf]
  rfl

/-! ### ABORT and the final states (R106, R107, R116) -/

/-- ABORT is taken everywhere but in FAULTED (R106, R107). -/
theorem abortNow_of_not_faulted {s : State} (ha : s.ports.abort = true) (hq : s.seq ≠ .faulted) : s.abortNow = true := by
  simp [State.abortNow, ha, hq]

theorem takeAbort_of_aborted {s : State} (hq : s.seq = .aborted) : takeAbort s = s := by
  rw [takeAbort, ← hq]

/-- ABORTED has no move, and a second ABORT finds it already there. -/
theorem step_of_aborted {s : State} (hq : s.seq = .aborted) : step s = .next s.nextPorts := by
  cases ha : s.abortNow with
  | true => rw [step_of_abort ha, takeAbort_of_aborted hq]
  | false => rw [step_of_not_running ha (by rw [hq]; rfl), idleMove_of_not_idle (by simp [hq])]

/-- A run from ABORTED changes nothing but the ports (R106, R109). -/
theorem runsTo_of_aborted (k : Nat) {s : State} (hq : s.seq = .aborted) :
    ∃ t, runsTo k s t ∧ t = { s with env := t.env } := by
  induction k generalizing s with
  | zero => exact ⟨s, runsTo_zero s, rfl⟩
  | succ k ih =>
    obtain ⟨t, hrun, ht⟩ := ih (s := s.nextPorts) hq
    exact ⟨t, runsTo_succ (step_of_aborted hq) hrun, ht⟩

/-- Settles O43: ABORT comes before the move of its boundary, and ABORTED has no move. -/
theorem abortStopsTheBlock : Obligations.AbortStopsTheBlock :=
  ⟨fun _ ha _ hq => step_of_abort (abortNow_of_not_faulted ha hq), fun k _ hq => runsTo_of_aborted k hq⟩

/-- Settles O44: FAULTED takes no ABORT, DONE does. -/
theorem abortAtFinalStates : Obligations.AbortAtFinalStates :=
  ⟨fun _ _ hq => step_of_faulted hq, fun _ ha hq => step_of_abort (abortNow_of_not_faulted ha (by simp [hq]))⟩

/-- Settles O46: DONE has no move. -/
theorem doneIsIdle : Obligations.DoneIsIdle := by
  intro s hq ha
  rw [step_of_not_running (abortNow_eq_false ha) (by rw [hq]; rfl), idleMove_of_not_idle (by simp [hq])]
  rfl

/-! ### the host's arguments (R58, R117..R119) -/

theorem hostArgumentInRange_iff (n : Int) : hostArgumentInRange n = true ↔ 1 ≤ n ∧ n ≤ 256 := by
  simp [hostArgumentInRange]

theorem hostAction_of_inRange {n : Int} (hlow : 1 ≤ n) (hhigh : n ≤ 256) :
    hostAction [n] = .dispatch (BitVec.ofNat 8 (n - 1).toNat) := by
  have hidx : n.toNat - 1 = (n - 1).toNat := by omega
  rw [hostAction, if_pos ((hostArgumentInRange_iff n).2 ⟨hlow, hhigh⟩), hidx]

theorem hostAction_of_outOfRange {n : Int} (h : n < 1 ∨ 256 < n) : hostAction [n] = .rangeError := by
  have hout : ¬ hostArgumentInRange n = true := by
    rw [hostArgumentInRange_iff]
    omega
  rw [hostAction, if_neg hout]

theorem hostAction_of_wrongCount {args : List Int} (h : args.length ≠ 1) : hostAction args = .usage := by
  match args with
  | [] => rfl
  | [_] => exact absurd rfl h
  | _ :: _ :: _ => rfl

/-! ### what the host puts on the ports (R117, R120) -/

theorem cmdStart_of_mem_map_noStart {l : List Ports} {p : Ports} (h : p ∈ l.map Ports.noStart) : p.cmdStart = false := by
  obtain ⟨p', -, rfl⟩ := List.mem_map.1 h
  rfl

theorem filter_cmdStart_map_noStart (l : List Ports) : (l.map Ports.noStart).filter (fun p => p.cmdStart) = [] :=
  List.filter_eq_nil_iff.2 fun _ hp => by simp [cmdStart_of_mem_map_noStart hp]

/-- CMD_START stands at one boundary of a dispatch (R117). -/
theorem length_filter_cmdStart_raiseStart (idx : Word) (wait : Nat) (outside : List Ports) :
    ((raiseStart idx wait outside).filter fun p => p.cmdStart).length = 1 := by
  induction wait generalizing outside with
  | zero =>
    rw [raiseStart, List.filter_cons_of_pos rfl, filter_cmdStart_map_noStart]
    rfl
  | succ wait ih => simpa [raiseStart, Ports.noStart] using ih outside.tail

/-- No CMD_START stands before the boundary `wait`. -/
theorem cmdStart_of_mem_take_raiseStart {idx : Word} {wait : Nat} {outside : List Ports} {p : Ports}
    (h : p ∈ (raiseStart idx wait outside).take wait) : p.cmdStart = false := by
  induction wait generalizing outside with
  | zero => simp at h
  | succ wait ih =>
    obtain rfl | h := List.mem_cons.1 h
    · rfl
    · exact ih h

theorem cmdStart_of_mem_take_hostPorts {a : HostAction} {wait : Nat} {outside : List Ports} {p : Ports}
    (h : p ∈ (hostPorts a wait outside).take wait) : p.cmdStart = false := by
  cases a with
  | dispatch idx => exact cmdStart_of_mem_take_raiseStart h
  | rangeError | usage => exact cmdStart_of_mem_map_noStart (List.mem_of_mem_take h)

theorem abort_getElem?_map_noStart (l : List Ports) (j : Nat) :
    ((l.map Ports.noStart)[j]?).map Ports.abort = (l[j]?).map Ports.abort := by
  simp [Function.comp_def, Ports.noStart]

/-- The outside's ABORTs stand at their boundaries in a dispatch (R120). -/
theorem abort_getElem?_raiseStart (idx : Word) (wait : Nat) {outside : List Ports} {j : Nat} (hj : j < outside.length) :
    ((raiseStart idx wait outside)[j]?).map Ports.abort = (outside[j]?).map Ports.abort := by
  induction outside generalizing wait j with
  | nil => simp at hj
  | cons p outside ih =>
    cases j with
    | zero => cases wait <;> rfl
    | succ j =>
      cases wait with
      | zero => exact abort_getElem?_map_noStart outside j
      | succ wait => exact ih wait (Nat.lt_of_succ_lt_succ hj)

/-- The outside's ABORTs stand at their boundaries in every invocation (R120). -/
theorem abort_getElem?_hostPorts (a : HostAction) (wait : Nat) {outside : List Ports} {j : Nat} (hj : j < outside.length) :
    ((hostPorts a wait outside)[j]?).map Ports.abort = (outside[j]?).map Ports.abort := by
  cases a with
  | dispatch idx => exact abort_getElem?_raiseStart idx wait hj
  | rangeError | usage => exact abort_getElem?_map_noStart outside j

/-! ### the ports along a run -/

/-- One boundary's ports are consumed by each step (log 5). -/
theorem Steps.env_eq {s t : State} (h : Steps s t) : t.env = s.env.tail := by
  cases h with
  | abort | fault | event | accept | stay => simp
  | write => simp [writeRegs_env]

theorem env_of_runsTo {k : Nat} {s t : State} (h : runsTo k s t) : t.env = s.env.drop k := by
  induction k generalizing s with
  | zero => cases h; rfl
  | succ k ih =>
    obtain ⟨u, hu, hr⟩ := runsTo_succ_iff.1 h
    rw [ih hr, (steps_of_step hu).env_eq, List.drop_tail]

/-- The ports at a state are those of the boundary its run has come to. -/
theorem abort_of_runsTo {k : Nat} {s t : State} (h : runsTo k s t) (ha : (s.env[k]?).map Ports.abort = some true) :
    t.ports.abort = true := by
  obtain ⟨p, hp, hpa⟩ := Option.map_eq_some_iff.1 ha
  rw [State.ports, env_of_runsTo h, List.headD_eq_head?_getD, List.head?_drop, hp]
  exact hpa

/-! ### before CMD_START -/

/-- No dispatch was accepted: SEQ is IDLE, or ABORTED since an ABORT came first, and nothing was emitted (R61, R106). -/
def undispatched (s : State) : Prop := (s.seq = .idle ∨ s.seq = .aborted) ∧ s.trace = []

/-- A boundary without CMD_START starts nothing. -/
theorem undispatched_step {s t : State} (hs : undispatched s) (hstart : s.ports.cmdStart = false) (h : step s = .next t) :
    undispatched t := by
  obtain ⟨hq, htrace⟩ := hs
  have hr : s.seq.running = false := by obtain hq | hq := hq <;> rw [hq] <;> rfl
  obtain ⟨-, rfl⟩ | ⟨-, hrun, -⟩ | ⟨-, -, rfl⟩ := step_cases h
  · exact ⟨.inr rfl, htrace⟩
  · simp [hr] at hrun
  · have hidle : idleMove s = s := by simp [idleMove, hstart]
    rw [hidle]
    exact ⟨hq, htrace⟩

/-- Boundaries without CMD_START start nothing. -/
theorem undispatched_of_runsTo {k : Nat} {s t : State} (hs : undispatched s) (hstart : ∀ p ∈ s.env.take k, p.cmdStart = false)
    (h : runsTo k s t) : undispatched t := by
  induction k generalizing s with
  | zero => cases h; exact hs
  | succ k ih =>
    obtain ⟨u, hu, hr⟩ := runsTo_succ_iff.1 h
    have hports : s.ports.cmdStart = false ∧ ∀ p ∈ s.env.tail.take k, p.cmdStart = false := by
      cases he : s.env with
      | nil => simp [ports_of_nil he, Ports.quiet]
      | cons p rest =>
        rw [ports_of_cons he]
        simpa [he] using hstart
    refine ih (undispatched_step hs hports.1 hu) ?_ hr
    rw [(steps_of_step hu).env_eq]
    exact hports.2

/-! ### invocations -/

theorem undispatched_invocation (a : HostAction) (wait : Nat) (outside : List Ports) :
    undispatched (invocation a wait outside) := ⟨.inl rfl, rfl⟩

theorem exists_runsTo_of_invocation (k : Nat) (a : HostAction) (wait : Nat) (outside : List Ports) :
    ∃ t, runsTo k (invocation a wait outside) t := exists_runsTo_of_onSequence k rfl

theorem cmdStart_of_refused {a : HostAction} (ha : a = .rangeError ∨ a = .usage) (wait : Nat) (outside : List Ports) :
    ∀ p ∈ (invocation a wait outside).env, p.cmdStart = false := by
  obtain rfl | rfl := ha <;> exact fun _ => cmdStart_of_mem_map_noStart

/-- Settles O56: refused arguments raise no CMD_START, and without one nothing starts. -/
theorem refusedInvocationsEmitNothing : Obligations.RefusedInvocationsEmitNothing := by
  refine ⟨fun n s hn => ?_, fun args s hlen => ?_, fun k a wait outside ha => ?_⟩
  · rw [hostAction_of_outOfRange hn]
    exact ⟨rfl, rfl⟩
  · rw [hostAction_of_wrongCount hlen]
    exact ⟨rfl, rfl⟩
  · have hstart := cmdStart_of_refused ha wait outside
    obtain ⟨t, hrun⟩ := exists_runsTo_of_invocation k a wait outside
    obtain ⟨-, htrace⟩ := undispatched_of_runsTo (undispatched_invocation a wait outside)
      (fun p hp => hstart p (List.mem_of_mem_take hp)) hrun
    exact ⟨hstart, t, hrun, htrace⟩

/-- Settles O55: the machine runs on to boundary `j`, where ABORT stands; up to `wait` no dispatch was accepted before it. -/
theorem hostMayAbortAtAnyBoundary : Obligations.HostMayAbortAtAnyBoundary := by
  intro a wait outside j p hp hpa
  obtain ⟨hj, -⟩ := List.getElem?_eq_some_iff.1 hp
  obtain ⟨s, hrun⟩ := exists_runsTo_of_invocation j a wait outside
  have ha : s.ports.abort = true := abort_of_runsTo hrun (by
    show ((hostPorts a wait outside)[j]?).map Ports.abort = some true
    rw [abort_getElem?_hostPorts a wait hj, hp, Option.map_some, hpa])
  have hearly : j ≤ wait → undispatched s := fun hle =>
    undispatched_of_runsTo (undispatched_invocation a wait outside)
      (fun p hp => cmdStart_of_mem_take_hostPorts ((List.take_sublist_take_left hle).mem hp)) hrun
  by_cases hq : s.seq = .faulted
  · refine ⟨_, runsTo_snoc hrun (step_of_faulted hq), .inr hq, fun hle => ?_⟩
    obtain ⟨hseq, -⟩ := hearly hle
    simp [hq] at hseq
  · refine ⟨_, runsTo_snoc hrun (step_of_abort (abortNow_of_not_faulted ha hq)), .inl rfl, fun hle => ⟨rfl, ?_⟩⟩
    obtain ⟨-, htrace⟩ := hearly hle
    exact htrace

/-! ### the dispatch of an invocation (R61, R117) -/

theorem abort_head_and_tail_of_take {outside : List Ports} {k : Nat} (h : ∀ p ∈ outside.take (k + 1), p.abort = false) :
    (outside.headD Ports.quiet).abort = false ∧ ∀ p ∈ outside.tail.take k, p.abort = false := by
  cases outside with
  | nil => simp [Ports.quiet]
  | cons p rest => simpa using h

/-- IDLE waits for CMD_START and takes the index that comes with it. -/
theorem runsTo_resolve_of_raiseStart {s : State} (hq : s.seq = .idle) (idx : Word) (wait : Nat) {outside : List Ports}
    (h : ∀ p ∈ outside.take (wait + 1), p.abort = false) :
    runsTo (wait + 1) { s with env := raiseStart idx wait outside }
      { s with idx := idx, seq := .resolve, env := (outside.drop (wait + 1)).map Ports.noStart } := by
  induction wait generalizing outside with
  | zero =>
    refine runsTo_succ (step_of_idle hq (abort_head_and_tail_of_take h).1) ?_
    rw [Nat.zero_add, List.drop_one]
    exact runsTo_zero _
  | succ wait ih =>
    obtain ⟨hhead, htail⟩ := abort_head_and_tail_of_take h
    refine runsTo_succ (step_of_idle hq hhead) ?_
    rw [← List.drop_tail]
    exact ih htail

/-- Settles O54: the action is the index one below, CMD_START stands once, and IDLE accepts it where it stands. -/
theorem hostDispatchesTheIndexBelowItsArgument : Obligations.HostDispatchesTheIndexBelowItsArgument := by
  intro n hlow hhigh
  have haction := hostAction_of_inRange hlow hhigh
  refine ⟨haction, fun wait outside => ?_⟩
  rw [haction]
  exact ⟨length_filter_cmdStart_raiseStart _ wait outside, runsTo_resolve_of_raiseStart (s := State.reset) rfl _ wait⟩

/-! ### an invocation to its good end (R120, R125) -/

/-- `t` is where a calm dispatch of a programming or unused index from `s` at RESOLVE ends. -/
structure DispatchDone (s t : State) : Prop where
  seq : t.seq = .done
  fault : t.fault = s.fault
  mode : t.mode = modeOf s.idx
  selTx : t.selTx = selTxOf t.mode
  selRx : t.selRx = selRxOf t.mode
  trace : t.trace = s.trace ++
    if t.mode = .unused then [] else programEvents Config.params (Config.freqTable s.idx) t.selTx t.selRx
  line (p : Line) : t.lines.get p = if t.selected (lineChannel p) then ⟨.zero, .output⟩ else s.lines.get p

/-- UNUSED goes from RESOLVE to DONE, and selects no channel (R64, R72). -/
theorem dispatchDone_of_unused {s : State} (hm : modeOf s.idx = .unused) : DispatchDone s (resolved s) := by
  have hmode : (resolved s).mode = .unused := hm
  have htx : (resolved s).selTx = false := congrArg selTxOf hm
  have hrx : (resolved s).selRx = false := congrArg selRxOf hm
  refine ⟨congrArg afterResolve hm, rfl, rfl, rfl, rfl, ?_, fun p => ?_⟩
  · rw [if_pos hmode, List.append_nil]
    rfl
  · have hsel : (resolved s).selected (lineChannel p) = false := by cases lineChannel p <;> assumption
    rw [hsel]
    rfl

/-- A calm dispatch outside the diagnostic modes comes to DONE (R66..R69, R72). -/
theorem exists_dispatchDone {s : State} (hq : s.seq = .resolve) (hc : calm s) (hd : ¬ isDiagnostic (modeOf s.idx)) :
    ∃ k t, runsTo k s t ∧ DispatchDone s t := by
  by_cases hm : modeOf s.idx = .unused
  · exact ⟨1, _, runsTo_succ (step_of_resolve hq (calm_ports hc).1) (runsTo_zero _), dispatchDone_of_unused hm⟩
  · have hprog : afterResolve (modeOf s.idx) = .prog .rx .ind := by
      cases h : modeOf s.idx with
      | amateur | txTuning | rxTuning | commercial => rfl
      | testMode => exact absurd (.inl h) hd
      | ledTest => exact absurd (.inr h) hd
      | unused => exact absurd h hm
    obtain ⟨t, hrun, hdone, hfault, hmode, htx, hrx, htrace, hline⟩ := programming_run hq hc rfl hprog
    refine ⟨_, t, hrun, hdone, hfault, hmode, by rw [htx, hmode], by rw [hrx, hmode], ?_, hline⟩
    rw [htrace, htx, hrx, hmode, if_neg hm]

theorem not_isDiagnostic_of_index {x : Word} (h : x.toNat < 240 ∨ (246 ≤ x.toNat ∧ x.toNat < 255)) :
    ¬ isDiagnostic (modeOf x) := by
  rintro (hm | hm)
  · have hin := (inRange_iff_modeOf .testMode x).2 hm
    simp only [OperatingMode.inRange, Bool.and_eq_true, decide_eq_true_eq] at hin
    omega
  · have hin := (inRange_iff_modeOf .ledTest x).2 hm
    simp only [OperatingMode.inRange, beq_iff_eq] at hin
    omega

/-- Where a dispatch of an invocation was accepted, `env` on the coming ports: reset, with IDX loaded and SEQ at RESOLVE (R61). -/
def dispatched (idx : Word) (env : List Ports) : State := { State.reset with idx := idx, seq := .resolve, env := env }

theorem calm_dispatched (idx : Word) (k : Nat) {outside : List Ports}
    (h : ∀ p ∈ outside, p.abort = false ∧ p.fails = false) :
    calm (dispatched idx ((outside.drop k).map Ports.noStart)) := by
  intro q hq
  obtain ⟨p, hp, rfl⟩ := List.mem_map.1 hq
  exact h p (List.mem_of_mem_drop hp)

/-- Settles O57: the invocation comes to RESOLVE with its index, and the dispatch from there to DONE. -/
theorem hostedInvocationEndsWell : Obligations.HostedInvocationEndsWell := by
  intro n wait outside hlow hrange hcalm
  obtain ⟨haction, hinv⟩ := hostDispatchesTheIndexBelowItsArgument (n : Int) (by omega) (by omega)
  have hstart : runsTo (wait + 1) (invocation (hostAction [(n : Int)]) wait outside)
      (dispatched (BitVec.ofNat 8 ((n : Int) - 1).toNat) ((outside.drop (wait + 1)).map Ports.noStart)) := by
    obtain ⟨-, haccept⟩ := hinv wait outside
    exact haccept fun p hp => (hcalm p (List.mem_of_mem_take hp)).1
  have hidx : ((n : Int) - 1).toNat = n - 1 := by omega
  have hword : (BitVec.ofNat 8 (n - 1)).toNat = n - 1 := Nat.mod_eq_of_lt (by omega)
  rw [hidx] at haction hstart
  obtain ⟨k, t, hrun, hdone⟩ := exists_dispatchDone (s := dispatched (BitVec.ofNat 8 (n - 1)) _) rfl
    (calm_dispatched _ (wait + 1) hcalm) (not_isDiagnostic_of_index (by rw [dispatched, hword]; omega))
  refine ⟨_, t, runsTo_add hstart hrun, ⟨hdone.seq, hdone.fault⟩, ?_, hdone.mode,
    hdone.selTx.trans (congrArg selTxOf hdone.mode), hdone.selRx.trans (congrArg selRxOf hdone.mode), hdone.trace,
    fun p hp => ?_⟩
  · rw [haction, exitStatus, if_pos hdone.seq]
  · rw [hdone.line, if_pos hp]

end Sys2Proof.Machine

/-! Lemmas and proofs for the statements about the reset (70_reset_and_hazards.md): what the lines and the indicators hold at
reset, and the entry point. -/

namespace Sys2Proof.Machine

open Sys2Proof.Safety

/-! ### the outputs at reset (R26, R121) -/

@[simp] theorem reset_lines_get (p : Line) : State.reset.lines.get p = .unknown := by cases p <;> rfl

@[simp] theorem reset_inds_get (ch : Channel) : State.reset.inds.get ch = .unknown := by cases ch <;> rfl

/-! ### the entry point (R61, R121) -/

/-- Settles O1: the outputs at reset are those no event has written, and the entry point is IDLE's acceptance of CMD_START. -/
theorem resetIsIdleAndUnknown : Obligations.ResetIsIdleAndUnknown := by
  obtain ⟨haccept, -⟩ := dispatchAcceptedOnlyInIdle
  refine ⟨rfl, reset_lines_get, reset_inds_get, rfl, rfl, fun x f rest => ?_⟩
  exact haccept { State.reset with env := ⟨true, x, false, f⟩ :: rest } rfl rfl rfl

end Sys2Proof.Machine
